-- ==== Sys2Proof/Word.lean ====
section
/-! DEFINITION. The word types of AXIREG-CORE (spec/00_scope.md R5, R8): bytes, the 32-bit wire address and data
words, the 64-bit address operand and the 98-bit command word. -/

namespace Sys2Proof

/-- One byte of the line or of a frame (R8). -/
abbrev Byte := BitVec 8

/-- A 32-bit wire address, data word or baud rate (R5: DATA_WIDTH, WIRE_ADDR_WIDTH, BAUD_WIDTH). -/
abbrev Word := BitVec 32

/-- The 64-bit address operand of READ and WRITE (R5: ADDR_IN_WIDTH; R42). -/
abbrev AddrIn := BitVec 64

/-- The 98-bit command word of the command interface (R74). -/
abbrev CommandWord := BitVec 98

end Sys2Proof
end

