-- ==== Sys2Proof/Config.lean ====
section
/-! DEFINITION. What is fixed when the block is built (spec/00_scope.md R5) and the free values: the device identifiers,
the wire constants, the status and command codes, the build parameters taken as a model argument, and the opaque constants that stand for what the
environment answers and for what a register holds after the RESET event. -/

namespace Sys2Proof

/-- The device identifier: an opaque type that R5 and R21 make a model argument, "a character string in the source" (D40).
It has both forms that R74 gives it at the command interface, so every identifier, of whatever length, is one of these
values. No rule looks inside (notes/assumptions/4). -/
inductive DevId where
  /-- An identifier that CMD_A carries, or a token for it. -/
  | token (v : BitVec 64)
  /-- An identifier wider than 64 bits, which travels beside the command word. -/
  | wide (name : List Byte)
deriving DecidableEq, Repr, Inhabited

namespace Config

/-- SOF, the start marker (R5, R61). -/
abbrev sof : Byte := 0xA5
/-- EOF, the end marker (R5, R61). -/
abbrev eof : Byte := 0x5A
/-- OP_READ, the wire tag of READ (R5, R71). -/
abbrev tagRead : Byte := 0x01
/-- OP_WRITE, the wire tag of WRITE (R5, R71). -/
abbrev tagWrite : Byte := 0x02

/-- OKAY (R5, R181). -/
abbrev okay : Byte := 0x00
/-- EXOKAY (R5, R181). PRESUMED with the next two, as the spec marks them: notes/assumptions/13. -/
abbrev exokay : Byte := 0x01
/-- SLVERR (R5, R181). -/
abbrev slverr : Byte := 0x02
/-- DECERR (R5, R181). -/
abbrev decerr : Byte := 0x03

/-- CMD_READ (R5, R74). -/
abbrev cmdRead : BitVec 2 := 1
/-- CMD_WRITE (R5, R74). -/
abbrev cmdWrite : BitVec 2 := 2
/-- CMD_CONNECT (R5, R74). -/
abbrev cmdConnect : BitVec 2 := 3

/-- E_NOT_OPEN (R181): READ or WRITE accepted while the channel is closed. -/
abbrev eNotOpen : Byte := 0x10
/-- E_TX_FAIL (R181): a send failed. -/
abbrev eTxFail : Byte := 0x11
/-- E_NO_RESPONSE (R181): every attempt failed. -/
abbrev eNoResponse : Byte := 0x12

/-- The build parameters that R5 leaves as a model argument. -/
structure Params where
  /-- MAX_ATTEMPTS: transmissions of one request, the first included (R133). -/
  maxAttempts : Nat
  /-- T_RESP_TICKS: ticks from the last request byte to the deadline (R17, R196). -/
  respTicks : Nat
  /-- RXBUF_DEPTH: `none` is unbounded (R167). -/
  rxDepth : Option Nat
deriving DecidableEq, Repr

/-- The parameter values R5 allows: at least one attempt, at least one tick, and a finite receive buffer of at least
nine bytes. -/
def Params.valid (p : Params) : Prop :=
  1 ≤ p.maxAttempts ∧ 1 ≤ p.respTicks ∧ 9 ≤ p.rxDepth.getD 9

/-- The defaults R5 names: three attempts, 100 ticks (suggested), an unbounded receive buffer. -/
abbrev Params.standard : Params := { maxAttempts := 3, respTicks := 100, rxDepth := none }

/-- What the registers hold after the RESET event where R10 says "unspecified, stable" or "don't care". -/
structure ResetDraw where
  reqOp     : Byte
  reqAddr   : Word
  reqData   : Word
  resStatus : Byte
  rdata     : Word
  resConn   : Bool
  txlen     : BitVec 4
  txidx     : BitVec 4
  explen    : BitVec 4
  rxidx     : BitVec 4
  attempt   : Nat
  timer     : Nat
  txbuf     : Vector Byte 12
  rxfrm     : Vector Byte 9
  cfgDev    : DevId
  cfgBaud   : Word
deriving DecidableEq, Repr, Inhabited

/-- Free value: the draw made at a RESET event (R10, R28, D28; notes/assumptions/2). The argument is State's draw
counter, so that two RESET events may leave different values. -/
opaque resetDraw : Nat → ResetDraw

/-- Free value: EnvOpen's answer where State lists none (R161, D37; notes/assumptions/5). `true` is ok. -/
opaque openAnswer : Nat → DevId → Word → Bool

/-- Free value: the line's answer to a send where State lists none (R162; notes/assumptions/5). `true` is ok. -/
opaque sendAnswer : Nat → Bool

end Config

end Sys2Proof
end

