-- ==== Sys2Proof/Syntax.lean ====
section
/-! DEFINITION. The instruction type: one constructor per row of spec/opcode_table.json (four frames, four command words,
twelve internal operations, eleven engine steps and the reset event), and the values the internal operations return. -/

namespace Sys2Proof

/-- The two operations of the wire protocol (R71). -/
inductive Opcode where
  | read
  | write
deriving DecidableEq, Repr

/-- The five kinds of DecodeError (R97). -/
inductive DecodeError where
  /-- DE_TRUNCATED: too few bytes, or no end marker at the last position. -/
  | truncated
  /-- DE_CHECKSUM: the CRC byte differs from the computed one. -/
  | checksum
  /-- DE_BAD_START: byte 0 is not the start marker. -/
  | badStart
  /-- DE_OPCODE: the opcode echo does not match. -/
  | opcode
  /-- DE_BAD_STATUS: a reserved status bit is set. -/
  | badStatus
deriving DecidableEq, Repr

/-- What DEC answers (R96). -/
inductive DecResult where
  | okRead (status : Byte) (data : Word)
  | okWrite (status : Byte)
  | err (kind : DecodeError)
deriving DecidableEq, Repr

/-- What DECREQ answers (R100). -/
inductive ReqResult where
  | okRead (addr : Word)
  | okWrite (addr data : Word)
  | err (kind : DecodeError)
deriving DecidableEq, Repr

/-- What SA.RECV answers (R163). -/
inductive RecvResult where
  | byte (b : Byte)
  | error
  | timeout
  | wait
deriving DecidableEq, Repr

/-- What the command interface carries (R74): a 98-bit word, or the CONNECT word whose identifier is wider than 64 bits, with
that identifier beside it. The CMD_A of the latter says nothing then and is not kept (notes/assumptions/4). -/
inductive Command where
  | word (w : CommandWord)
  | wideConnect (name : List Byte) (baud : Word)
deriving DecidableEq, Repr

/-- The rows of spec/opcode_table.json. -/
inductive Instr where
  /-- REQ.READ (R62): request frame; `crc` is the CRC field as it stands in the frame. -/
  | reqRead (addr : Word) (crc : Byte)
  /-- REQ.WRITE (R63). -/
  | reqWrite (addr data : Word) (crc : Byte)
  /-- RSP.READ (R64): response frame; `status` is STATUS[1:0]. -/
  | rspRead (status : BitVec 2) (data : Word) (crc : Byte)
  /-- RSP.WRITE (R65). -/
  | rspWrite (status : BitVec 2) (crc : Byte)
  /-- READ (R74, R135): command word; `ignored` is CMD_D. -/
  | read (addr : AddrIn) (ignored : Word)
  /-- WRITE (R74, R136). -/
  | write (addr : AddrIn) (data : Word)
  /-- CONNECT (R74, R122). -/
  | connect (dev : DevId) (baud : Word)
  /-- CMD.RESERVED (R74, R121): the command words with CMD_OP = 0b00. -/
  | cmdReserved (a : AddrIn) (d : Word)
  /-- CRC8 (R91). -/
  | crc8 (bytes : List Byte)
  /-- ENC.READ (R93). -/
  | encRead (addr : Word)
  /-- ENC.WRITE (R94). -/
  | encWrite (addr data : Word)
  /-- ENC (R95), with TXLENOF and EXPLEN; `op` is an opcode tag. -/
  | enc (op : Byte) (addr data : Word)
  /-- DEC (R96); `op` is an opcode tag. -/
  | dec (op : Byte) (bytes : List Byte)
  /-- DEC.READ (R98). -/
  | decRead (bytes : List Byte)
  /-- DEC.WRITE (R99). -/
  | decWrite (bytes : List Byte)
  /-- DECREQ (R100). -/
  | decReq (bytes : List Byte)
  /-- SA.OPEN (R161). -/
  | saOpen (dev : DevId) (baud : Word)
  /-- SA.SEND (R162). -/
  | saSend (b : Byte)
  /-- SA.RECV (R163). -/
  | saRecv
  /-- SA.FLUSH (R164). -/
  | saFlush
  /-- T1 (R122), the CONNECT step. -/
  | t1
  /-- T2 (R123), READ acceptance. -/
  | t2
  /-- T3 (R124), WRITE acceptance. -/
  | t3
  /-- T4 (R125), flush and encode. -/
  | t4
  /-- T5 (R126), send one byte, success. -/
  | t5
  /-- T6 (R127), send one byte, failure. -/
  | t6
  /-- T7 (R128), collect one response byte. -/
  | t7
  /-- T8 (R129), receive error. -/
  | t8
  /-- T9 (R130), timeout. -/
  | t9
  /-- T10 (R131), decode, success. -/
  | t10
  /-- T11 (R132), decode, failure. -/
  | t11
  /-- RESET (R210), the reset event. -/
  | reset
deriving DecidableEq, Repr

end Sys2Proof
end

