-- ==== Sys2Proof/Machine/Operands.lean ====
section
/-! DEFINITION. Operand assembly and byte order (spec/00_scope.md R8; spec/20_memory.md R42, R43; spec/30_encoding.md R66
to R71): be32 and unbe32, the address truncation, opcode tags, status bits, bytes by index. -/

namespace Sys2Proof.Machine

/-- be32 (R8, R43): the four bytes of a word, most significant first. -/
def be32 (v : Word) : List Byte :=
  [v.extractLsb' 24 8, v.extractLsb' 16 8, v.extractLsb' 8 8, v.extractLsb' 0 8]

/-- Concatenation of four bytes, the first most significant (R8). -/
def joinBytes (b0 b1 b2 b3 : Byte) : Word :=
  (b0 ++ b1 ++ b2 ++ b3 : BitVec (8 + 8 + 8 + 8))

/-- s[i] (R8). Every use stands behind a length check, so the default is never read. -/
def byteAt (s : List Byte) (i : Nat) : Byte := s.getD i 0

/-- unbe32 (R8) of the four bytes of `s` from index `i` on. -/
def unbe32At (s : List Byte) (i : Nat) : Word :=
  joinBytes (byteAt s i) (byteAt s (i + 1)) (byteAt s (i + 2)) (byteAt s (i + 3))

/-- trunc_32 (R8, R42, R66): bits 63 to 32 of the address operand are discarded. -/
def trunc32 (a : AddrIn) : Word := a.setWidth 32

/-- The wire tag of an operation (R71). -/
def opTag : Opcode → Byte
  | .read => Config.tagRead
  | .write => Config.tagWrite

/-- The operation of a tag (R71): every value but 0x01 and 0x02 is reserved. -/
def opOfTag (t : Byte) : Option Opcode :=
  if t = Config.tagRead then some .read
  else if t = Config.tagWrite then some .write
  else none

/-- The reserved bits 7 to 2 of a STATUS byte are zero (R61, R68). -/
def statusLegal (st : Byte) : Bool := st.extractLsb' 2 6 == 0

/-- An AXI response code as a STATUS byte: zero-extended to eight bits (R68). -/
def statusByte (st : BitVec 2) : Byte := st.setWidth 8

/-- The low bits of a STATUS byte: the AXI response code (R68). -/
def statusCode (st : Byte) : BitVec 2 := st.extractLsb' 0 2

/-- The n bytes of a number in line order: byte 0 is the most significant (opcode_table.json, bit_numbering). -/
def bytesOfNat : Nat → Nat → List Byte
  | 0, _ => []
  | n + 1, w => BitVec.ofNat 8 (w >>> (8 * n)) :: bytesOfNat n w

/-- TXBUF[i] <- f[i] for every index of the frame; higher indices keep their bytes (R18, R125). -/
def writeFrame (buf : Vector Byte 12) (f : List Byte) : Vector Byte 12 :=
  Vector.ofFn fun i => f.getD i.val (buf[i.val])

/-- RXFRM with its first bytes replaced, as writeFrame does for TXBUF. -/
def writeResponse (buf : Vector Byte 9) (f : List Byte) : Vector Byte 9 :=
  Vector.ofFn fun i => f.getD i.val (buf[i.val])

end Sys2Proof.Machine
end

