-- ==== Sys2Proof/Machine/Codec.lean ====
section
/-! DEFINITION. The Frame Codec as pure functions (spec/40_frame_codec.md): the checksum, the request encoder, the response
decoder, the reference request decoder and the reference response encoder of R101. -/

namespace Sys2Proof.Machine

/-- One turn of the inner loop of R91. -/
def crcBit (c : Byte) : Byte :=
  if c.msb then (c <<< 1) ^^^ 0x07 else c <<< 1

/-- One byte of R91: XOR it in, then eight turns. -/
def crcByte (c b : Byte) : Byte :=
  crcBit (crcBit (crcBit (crcBit (crcBit (crcBit (crcBit (crcBit (c ^^^ b))))))))

/-- CRC8 (R91). -/
def crc8 (s : List Byte) : Byte := s.foldl crcByte 0

/-- The frame of a payload: the payload, its CRC byte, the end marker (R60, R69). -/
def sealFrame (p : List Byte) : List Byte := p ++ [crc8 p, Config.eof]

/-- The covered bytes of a REQ.READ (R62, R93). -/
def reqReadPayload (a : Word) : List Byte := [Config.sof, Config.tagRead] ++ be32 a

/-- The covered bytes of a REQ.WRITE (R63, R94). -/
def reqWritePayload (a d : Word) : List Byte := [Config.sof, Config.tagWrite] ++ be32 a ++ be32 d

/-- The covered bytes of a RSP.READ (R64). -/
def rspReadPayload (st : Byte) (v : Word) : List Byte := [Config.sof, Config.tagRead, st] ++ be32 v

/-- The covered bytes of a RSP.WRITE (R65). -/
def rspWritePayload (st : Byte) : List Byte := [Config.sof, Config.tagWrite, st]

/-- ENC.READ (R93). -/
def encRead (a : Word) : List Byte := sealFrame (reqReadPayload a)

/-- ENC.WRITE (R94). -/
def encWrite (a d : Word) : List Byte := sealFrame (reqWritePayload a d)

/-- ENC (R95). -/
def enc (op : Opcode) (a d : Word) : List Byte :=
  match op with
  | .read => encRead a
  | .write => encWrite a d

/-- TXLENOF (R95). -/
def txlenOf : Opcode → Nat
  | .read => 8
  | .write => 12

/-- EXPLEN (R95): the response decoder's byte budget. -/
def explenOf : Opcode → Nat
  | .read => 9
  | .write => 5

/-- Step 7 of R96: the values of a frame that passed every check. -/
def decValues (op : Opcode) (s : List Byte) : DecResult :=
  match op with
  | .read => .okRead (byteAt s 2) (unbe32At s 3)
  | .write => .okWrite (byteAt s 2)

/-- DEC (R96): the checks in their fixed order, the first that fails decides the kind. -/
def dec (op : Opcode) (s : List Byte) : DecResult :=
  if s.length < explenOf op then .err .truncated
  else if byteAt s (explenOf op - 1) ≠ Config.eof then .err .truncated
  else if byteAt s (explenOf op - 2) ≠ crc8 (s.take (explenOf op - 2)) then .err .checksum
  else if byteAt s 0 ≠ Config.sof then .err .badStart
  else if byteAt s 1 ≠ opTag op then .err .opcode
  else if statusLegal (byteAt s 2) = false then .err .badStatus
  else decValues op s

/-- DEC answered Ok (R131). -/
def decodedOk : DecResult → Bool
  | .okRead _ _ => true
  | .okWrite _ => true
  | .err _ => false

/-- The checks DECREQ makes once the OP byte has given the length (R100). -/
def decReqBody (op : Opcode) (s : List Byte) : ReqResult :=
  if s.length < txlenOf op then .err .truncated
  else if byteAt s (txlenOf op - 1) ≠ Config.eof then .err .truncated
  else if byteAt s (txlenOf op - 2) ≠ crc8 (s.take (txlenOf op - 2)) then .err .checksum
  else if byteAt s 0 ≠ Config.sof then .err .badStart
  else
    match op with
    | .read => .okRead (unbe32At s 2)
    | .write => .okWrite (unbe32At s 2) (unbe32At s 6)

/-- DECREQ (R100): the reference request decoder; the length comes from the received OP byte. -/
def decReq (s : List Byte) : ReqResult :=
  if s.length < 2 then .err .truncated
  else
    match opOfTag (byteAt s 1) with
    | some op => decReqBody op s
    | none => .err .opcode

/-- RSPENC.READ (R101): the reference response encoder. -/
def rspEncRead (st : Byte) (v : Word) : List Byte := sealFrame (rspReadPayload st v)

/-- RSPENC.WRITE (R101). -/
def rspEncWrite (st : Byte) : List Byte := sealFrame (rspWritePayload st)

end Sys2Proof.Machine
end

