-- ==== Sys2Proof/WellFormed.lean ====
section
/-! DEFINITION. Which instructions are well formed: a frame's CRC field equals CRC8 of the bytes before it (spec/30_encoding.md
R69), an identifier beside a command word is too wide for it (R74), and the tag operand of ENC and DEC is one of the two that R95 defines them for. -/

namespace Sys2Proof

/-- An identifier that travels beside the word is wider than 64 bits (R74). -/
def DevId.wf : DevId → Bool
  | .token _ => true
  | .wide name => 8 < name.length

/-- The well-formedness check. -/
def Instr.wf : Instr → Bool
  | .reqRead addr crc => crc == Machine.crc8 (Machine.reqReadPayload addr)
  | .reqWrite addr data crc => crc == Machine.crc8 (Machine.reqWritePayload addr data)
  | .rspRead status data crc => crc == Machine.crc8 (Machine.rspReadPayload (Machine.statusByte status) data)
  | .rspWrite status crc => crc == Machine.crc8 (Machine.rspWritePayload (Machine.statusByte status))
  | .read _ _ => true
  | .write _ _ => true
  | .connect dev _ => dev.wf
  | .cmdReserved _ _ => true
  | .crc8 _ => true
  | .encRead _ => true
  | .encWrite _ _ => true
  | .enc op _ _ => (Machine.opOfTag op).isSome
  | .dec op _ => (Machine.opOfTag op).isSome
  | .decRead _ => true
  | .decWrite _ => true
  | .decReq _ => true
  | .saOpen dev _ => dev.wf
  | .saSend _ => true
  | .saRecv => true
  | .saFlush => true
  | .t1 => true
  | .t2 => true
  | .t3 => true
  | .t4 => true
  | .t5 => true
  | .t6 => true
  | .t7 => true
  | .t8 => true
  | .t9 => true
  | .t10 => true
  | .t11 => true
  | .reset => true

end Sys2Proof
end

