-- ==== Sys2Proof/Decode.lean ====
section
/-! DEFINITION. Decoding and encoding (spec/30_encoding.md): frames by their length and fixed bytes, command words by
CMD_OP, every other byte sequence rejected by name; then the encoder, from the same tables; then the table-word reader the
host calls. The CRC field is an operand of a frame's instruction; that it is right is WellFormed's to say. -/

namespace Sys2Proof

open Machine (byteAt joinBytes be32 statusLegal statusCode statusByte bytesOfNat)

/-- What an interface carries (R78: the internal rows have no encoding): a frame on the line, or a command. -/
inductive Code where
  | frame (bytes : List Byte)
  | command (c : Command)
deriving DecidableEq, Repr

/-- Why a byte sequence is no frame of the table. -/
inductive DecodeReject where
  /-- The length is none of 5, 8, 9 and 12 (R70). -/
  | badLength (n : Nat)
  /-- The last byte is not the end marker (R61). -/
  | badEnd
  /-- The first byte is not the start marker (R61). -/
  | badStart
  /-- The OP byte is not the tag of the frame type of this length (R70, R71). -/
  | badTag (op : Byte)
  /-- A STATUS byte with a reserved bit set (R61, R68). -/
  | reservedStatus (st : Byte)
deriving DecidableEq, Repr

/-- The checks every frame type shares: start marker, tag and end marker at their positions (R60, R61, R73). -/
def checkMarkers (tag b0 b1 last : Byte) (i : Instr) : Except DecodeReject Instr :=
  if last ≠ Config.eof then .error .badEnd
  else if b0 ≠ Config.sof then .error .badStart
  else if b1 ≠ tag then .error (.badTag b1)
  else .ok i

/-- The check a response adds: the reserved status bits are zero (R68). -/
def checkStatus (st : Byte) (r : Except DecodeReject Instr) : Except DecodeReject Instr :=
  match r with
  | .error e => .error e
  | .ok i => if statusLegal st then .ok i else .error (.reservedStatus st)

/-- A frame by position: the four lengths of R60 tell the four types apart. -/
def decodeFrame : List Byte → Except DecodeReject Instr
  | [b0, b1, b2, b3, b4] =>
    checkStatus b2 (checkMarkers Config.tagWrite b0 b1 b4 (.rspWrite (statusCode b2) b3))
  | [b0, b1, b2, b3, b4, b5, b6, b7] =>
    checkMarkers Config.tagRead b0 b1 b7 (.reqRead (joinBytes b2 b3 b4 b5) b6)
  | [b0, b1, b2, b3, b4, b5, b6, b7, b8] =>
    checkStatus b2 (checkMarkers Config.tagRead b0 b1 b8 (.rspRead (statusCode b2) (joinBytes b3 b4 b5 b6) b7))
  | [b0, b1, b2, b3, b4, b5, b6, b7, b8, b9, b10, b11] =>
    checkMarkers Config.tagWrite b0 b1 b11 (.reqWrite (joinBytes b2 b3 b4 b5) (joinBytes b6 b7 b8 b9) b10)
  | l => .error (.badLength l.length)

/-- CMD_OP, CMD_A and CMD_D of a command word (R74). -/
def cmdOp (w : CommandWord) : BitVec 2 := w.extractLsb' 96 2
/-- CMD_A (R74). -/
def cmdA (w : CommandWord) : AddrIn := w.extractLsb' 32 64
/-- CMD_D (R74). -/
def cmdD (w : CommandWord) : Word := w.extractLsb' 0 32

/-- A command word by CMD_OP (R74). Every word is one of the four rows. -/
def decodeCommand (w : CommandWord) : Instr :=
  if cmdOp w = Config.cmdRead then .read (cmdA w) (cmdD w)
  else if cmdOp w = Config.cmdWrite then .write (cmdA w) (cmdD w)
  else if cmdOp w = Config.cmdConnect then .connect (.token (cmdA w)) (cmdD w)
  else .cmdReserved (cmdA w) (cmdD w)

/-- What stands at the command interface (R74): a word, or CONNECT with its identifier beside the word. -/
def decodeInterface : Command → Instr
  | .word w => decodeCommand w
  | .wideConnect name baud => .connect (.wide name) baud

/-- The decoder, total on everything the interfaces can carry. -/
def decode : Code → Except DecodeReject Instr
  | .frame bytes => decodeFrame bytes
  | .command c => .ok (decodeInterface c)

/-- A command word from its three fields (R74). -/
def commandWord (op : BitVec 2) (a : AddrIn) (d : Word) : CommandWord :=
  (op ++ a ++ d : BitVec (2 + 64 + 32))

/-- CONNECT at the command interface (R74), for either form of the identifier. -/
def connectCommand (dev : DevId) (baud : Word) : Command :=
  match dev with
  | .token v => .word (commandWord Config.cmdConnect v baud)
  | .wide name => .wideConnect name baud

/-- The encoder: `none` for the rows that R78 gives no encoding. -/
def encode : Instr → Option Code
  | .reqRead addr crc => some (.frame ([Config.sof, Config.tagRead] ++ be32 addr ++ [crc, Config.eof]))
  | .reqWrite addr data crc =>
    some (.frame ([Config.sof, Config.tagWrite] ++ be32 addr ++ be32 data ++ [crc, Config.eof]))
  | .rspRead status data crc =>
    some (.frame ([Config.sof, Config.tagRead, statusByte status] ++ be32 data ++ [crc, Config.eof]))
  | .rspWrite status crc => some (.frame [Config.sof, Config.tagWrite, statusByte status, crc, Config.eof])
  | .read addr ignored => some (.command (.word (commandWord Config.cmdRead addr ignored)))
  | .write addr data => some (.command (.word (commandWord Config.cmdWrite addr data)))
  | .connect dev baud => some (.command (connectCommand dev baud))
  | .cmdReserved a d => some (.command (.word (commandWord 0 a d)))
  | .crc8 _ => none
  | .encRead _ => none
  | .encWrite _ _ => none
  | .enc _ _ _ => none
  | .dec _ _ => none
  | .decRead _ => none
  | .decWrite _ => none
  | .decReq _ => none
  | .saOpen _ _ => none
  | .saSend _ => none
  | .saRecv => none
  | .saFlush => none
  | .t1 => none
  | .t2 => none
  | .t3 => none
  | .t4 => none
  | .t5 => none
  | .t6 => none
  | .t7 => none
  | .t8 => none
  | .t9 => none
  | .t10 => none
  | .t11 => none
  | .reset => none

/-- What a table row's number stands for (opcode_table.json): 40, 64, 72 or 96 bits are a frame, byte 0 most
significant; 98 bits (104 in whole bytes) are a command word, bit 97 leftmost. -/
def codeOfTableWord (nbits w : Nat) : Option Code :=
  match nbits with
  | 40 => if w < 2 ^ 40 then some (.frame (bytesOfNat 5 w)) else none
  | 64 => if w < 2 ^ 64 then some (.frame (bytesOfNat 8 w)) else none
  | 72 => if w < 2 ^ 72 then some (.frame (bytesOfNat 9 w)) else none
  | 96 => if w < 2 ^ 96 then some (.frame (bytesOfNat 12 w)) else none
  | 98 => if w < 2 ^ 98 then some (.command (.word (BitVec.ofNat 98 w))) else none
  | 104 => if w < 2 ^ 98 then some (.command (.word (BitVec.ofNat 98 w))) else none
  | _ => none

/-- The instruction the decoder reads from a table row's number. -/
def decodeTableWord (nbits w : Nat) : Option Instr :=
  match codeOfTableWord nbits w with
  | some c =>
    match decode c with
    | .ok i => some i
    | .error _ => none
  | none => none

end Sys2Proof
end

