-- ==== Sys2Proof/Machine/State.lean ====
section
/-! DEFINITION. The machine's state as plain data (spec/10_state.md R10: every register and buffer), the environment's side of
it (the command interface, the answers and events to come, the events emitted: R7, R8), the state right after reset, and
the reasons a step can stop. -/

namespace Sys2Proof.Machine

/-- TE_STATE (R14). -/
inductive TeState where
  | idle
  | prep
  | tx
  | await
  | decode
deriving DecidableEq, Repr

/-- The observable events (R8): a byte handed to the line, the receive buffer discarded, a command completed (R74). -/
inductive Event where
  | tx (b : Byte)
  | flush
  | doneConnect (ok : Bool)
  | doneRead (status : Byte) (data : Word)
  | doneWrite (status : Byte)
deriving DecidableEq, Repr

/-- Who moves next (R7, R139): the engine, or the environment with one of its events. -/
inductive Turn where
  /-- The engine takes the one step that is enabled, or waits. -/
  | engine
  /-- LineRx(b) (R165). -/
  | lineRx (b : Byte)
  /-- LineRxErr (R166). -/
  | lineRxErr
  /-- Tick (R196). -/
  | tick
  /-- The reset event (R210). -/
  | reset
  /-- The host presents a command at the interface (R121). -/
  | present (c : Command)
  /-- The host withdraws the command word it presents (R121). -/
  | withdraw
deriving DecidableEq, Repr

/-- The value an internal operation returned when it ran as an instruction of its own. -/
inductive OpResult where
  | nothing
  | byte (b : Byte)
  | bytes (s : List Byte)
  | encoded (frame : List Byte) (txlen explen : Nat)
  | decoded (r : DecResult)
  | request (r : ReqResult)
  | answered (ok : Bool)
  | received (r : RecvResult)
deriving DecidableEq, Repr

/-- The state. The first twenty fields are the tuple of R10; the others are the model's own. -/
structure State where
  /-- REQ_OP (R11). -/
  reqOp     : Byte
  /-- REQ_ADDR (R11). -/
  reqAddr   : Word
  /-- REQ_DATA (R11). -/
  reqData   : Word
  /-- RES_STATUS (R12). -/
  resStatus : Byte
  /-- RDATA (R12). -/
  rdata     : Word
  /-- RES_CONN (R12). -/
  resConn   : Bool
  /-- TE_STATE (R14). -/
  teState   : TeState
  /-- TXLEN (R15). -/
  txlen     : BitVec 4
  /-- TXIDX (R15). -/
  txidx     : BitVec 4
  /-- EXPLEN (R15). -/
  explen    : BitVec 4
  /-- RXIDX (R15). -/
  rxidx     : BitVec 4
  /-- ATTEMPT (R16). -/
  attempt   : Nat
  /-- TIMER (R17). -/
  timer     : Nat
  /-- TXBUF (R18). -/
  txbuf     : Vector Byte 12
  /-- RXFRM (R19). -/
  rxfrm     : Vector Byte 9
  /-- CH_OPEN (R20). -/
  chOpen    : Bool
  /-- CFG_DEV (R21). -/
  cfgDev    : DevId
  /-- CFG_BAUD (R21). -/
  cfgBaud   : Word
  /-- RXBUF (R22), the head first. -/
  rxbuf     : List Byte
  /-- RX_ERR (R23). -/
  rxErr     : Bool
  /-- What stands at the command interface (R74, R121); a command the engine accepted is no longer there. -/
  cmd         : Option Command
  /-- The environment's answers to the next opens (R161), `true` is ok; when empty, Config.openAnswer answers. -/
  openAnswers : List Bool
  /-- The line's answers to the next sends (R162), `true` is ok; when empty, Config.sendAnswer answers. -/
  sendAnswers : List Bool
  /-- Who moves next (R139); when empty, the engine. -/
  schedule    : List Turn
  /-- The events emitted so far, oldest first (R8). -/
  trace       : List Event
  /-- The build parameters R5 makes a model argument; no step writes them. -/
  params      : Config.Params
  /-- How many free values of Config have been drawn. -/
  draws       : Nat
  /-- The value the last internal operation returned as an instruction; nothing else reads or writes it. -/
  opResult    : OpResult
deriving DecidableEq, Repr

/-- Right after power-on (R210, R211): the channel closed, the receive buffer empty, no receive error, the engine IDLE.
Every other register holds 0 (DESIGN CHOICE, notes/assumptions/1), the parameters are the defaults of R5, and the
environment has said nothing yet. -/
def State.reset : State where
  reqOp := 0
  reqAddr := 0
  reqData := 0
  resStatus := 0
  rdata := 0
  resConn := false
  teState := .idle
  txlen := 0
  txidx := 0
  explen := 0
  rxidx := 0
  attempt := 0
  timer := 0
  txbuf := Vector.replicate 12 0
  rxfrm := Vector.replicate 9 0
  chOpen := false
  cfgDev := .token 0
  cfgBaud := 0
  rxbuf := []
  rxErr := false
  cmd := none
  openAnswers := []
  sendAnswers := []
  schedule := []
  trace := []
  params := Config.Params.standard
  draws := 0
  opResult := .nothing

/-- Why the machine stops. No state that meets the invariant of R29 reaches either; both are safe. -/
inductive Fault where
  /-- Raised by ENC, DEC, T4, T6, T8 to T11 and the response frames when the opcode tag is neither 0x01 nor 0x02: R95 "For
  any other `op` the three are not defined; no reachable state calls them so". Safe. -/
  | tagUndefined
  /-- Raised by T5, T6 and T7 when TXIDX or RXIDX points past the buffer: R18 and R19 give TXBUF twelve bytes and RXFRM
  nine. Safe. -/
  | noSuchBufferByte
deriving DecidableEq, Repr

/-- Why an instruction has no meaning in a state. -/
inductive Refusal where
  /-- An instruction without a meaning yet: no arm of exec gives it. Safe. -/
  | notModelled (mnemonic : String)
  /-- Raised by READ, WRITE and CONNECT while BUSY = 1: R121 "a model gives a second command during BUSY no step (refused)".
  Safe: step never asks it, the word stays at the interface. -/
  | commandWhileBusy
  /-- Raised by an engine step or a frame whose guard does not hold in the state (R139 lists every step). Safe: step asks
  only the enabled one. -/
  | stepNotEnabled (mnemonic : String)
deriving DecidableEq, Repr

/-- The outcome of a meaning. -/
abbrev Out := Host.Outcome State Fault Refusal

end Sys2Proof.Machine
end

