-- ==== Sys2Proof/Machine/Flags.lean ====
section
/-! DEFINITION. The one-bit conditions of the block (spec/10_state.md R20, R23, R24; spec/42_serial_adapter.md R165 to R167):
BUSY, room in the receive buffer, and how CH_OPEN gates what the line does. The block has no arithmetic flags. -/

namespace Sys2Proof.Machine

/-- BUSY (R24): not a register, 1 exactly when TE_STATE is not IDLE. -/
def State.busy (s : State) : Bool := s.teState != .idle

/-- A byte fits in RXBUF: its length is below RXBUF_DEPTH, which `none` makes unbounded (R22, R165, R167). -/
def rxRoom (s : State) : Bool :=
  match s.params.rxDepth with
  | none => true
  | some d => decide (s.rxbuf.length < d)

/-- LineRx appends (R165): the channel is open and there is room. -/
def rxAccepts (s : State) : Bool := s.chOpen && rxRoom s

/-- RX_ERR after a LineRxErr (R166's pseudocode): set when the channel is open, in every TE_STATE, else as it was. DEDUCED: a
flag set in TX is still set in AWAIT and fails the attempt there (R129, R139), although R166's last sentence gives an error
outside AWAIT no effect (notes/assumptions/18). -/
def rxErrAfterLine (s : State) : Bool := s.rxErr || s.chOpen

end Sys2Proof.Machine
end

