-- ==== Sys2Proof/Machine/Ops.lean ====
section
/-! DEFINITION. The operations the meanings share: emitting events, completing a command (what stands here in place of taking
an exception, R186, R193), the retry policy, the environment's answers, the adapter's primitives, the line's events, the
engine's actions, and the reset event. -/

namespace Sys2Proof.Machine

/-- emit (R8): one observable event. -/
def emit (e : Event) (s : State) : State := { s with trace := s.trace ++ [e] }

/-- The Done event of a READ or WRITE (R74, R134). -/
def doneEvent (op : Opcode) (st : Byte) (s : State) : Event :=
  match op with
  | .read => .doneRead st s.rdata
  | .write => .doneWrite st

/-- Complete(op, st) (R134). -/
def complete (op : Opcode) (st : Byte) (s : State) : State :=
  { emit (doneEvent op st s) s with resStatus := st, teState := .idle }

/-- raise Code (R186): the completion of the current command with a transport code. This is all that an error does here:
nothing is saved, no mode changes, no handler is entered (R193). -/
def raise (op : Opcode) (code : Byte) (s : State) : State := complete op code s

/-- The way back from an error (R194): none is needed, the engine is IDLE and accepts the next command. -/
def acceptsCommand (s : State) : Bool := !s.busy

/-- AttemptFailed (R133), the retry policy. The reason is not stored and changes nothing, so it is no argument. -/
def attemptFailed (op : Opcode) (s : State) : State :=
  if s.attempt = s.params.maxAttempts then raise op Config.eNoResponse s
  else { s with attempt := s.attempt + 1, teState := .prep }

/-- Continue with the latched operation (R11); R95 defines nothing for a reserved tag. -/
def withLatchedOp (s : State) (k : Opcode → Out) : Out :=
  match opOfTag s.reqOp with
  | some op => k op
  | none => .fault .tagUndefined

/-! The environment's answers (R7, R161, R162). -/

/-- EnvOpen's answer (R161): the next one State lists, else a free value. -/
def openAnswer (dev : DevId) (baud : Word) (s : State) : Bool :=
  match s.openAnswers with
  | r :: _ => r
  | [] => Config.openAnswer s.draws dev baud

/-- The answer to an open is used up. -/
def takeOpenAnswer (s : State) : State :=
  match s.openAnswers with
  | _ :: rest => { s with openAnswers := rest }
  | [] => { s with draws := s.draws + 1 }

/-- The line's answer to a send (R162): the next one State lists, else a free value. -/
def lineAnswer (s : State) : Bool :=
  match s.sendAnswers with
  | r :: _ => r
  | [] => Config.sendAnswer s.draws

/-- The answer to a send is used up. -/
def takeLineAnswer (s : State) : State :=
  match s.sendAnswers with
  | _ :: rest => { s with sendAnswers := rest }
  | [] => { s with draws := s.draws + 1 }

/-! The adapter's primitives (R161 to R164). -/

/-- The closing half of SA.OPEN (R161): close whatever was open. -/
def closeChannel (s : State) : State := { s with chOpen := false, rxbuf := [], rxErr := false }

/-- The opening half of SA.OPEN when EnvOpen answered ok (R161). -/
def channelOpened (dev : DevId) (baud : Word) (s : State) : State :=
  { s with chOpen := true, cfgDev := dev, cfgBaud := baud }

/-- SA.OPEN (R161). Its result is `openAnswer dev baud s`. -/
def saOpen (dev : DevId) (baud : Word) (s : State) : State :=
  if openAnswer dev baud s then channelOpened dev baud (takeOpenAnswer (closeChannel s))
  else takeOpenAnswer (closeChannel s)

/-- The result of SA.SEND (R162): fail on a closed channel, else the line's answer. -/
def sendResult (s : State) : Bool := s.chOpen && lineAnswer s

/-- SA.SEND (R162) with the Tx event of a successful send. A closed channel asks the line nothing. -/
def saSend (b : Byte) (s : State) : State :=
  if s.chOpen then
    if lineAnswer s then emit (.tx b) (takeLineAnswer s) else takeLineAnswer s
  else s

/-- The result of SA.RECV (R163), by its priority (R191): error, then a waiting byte, then the timeout. -/
def recvResult (s : State) : RecvResult :=
  if s.rxErr then .error
  else
    match s.rxbuf with
    | b :: _ => .byte b
    | [] => if s.timer = 0 then .timeout else .wait

/-- SA.RECV (R163): the head leaves RXBUF when it is what was received. -/
def saRecv (s : State) : State :=
  match recvResult s with
  | .byte _ => { s with rxbuf := s.rxbuf.tail }
  | .error => s
  | .timeout => s
  | .wait => s

/-- SA.FLUSH (R164). -/
def saFlush (s : State) : State := emit .flush { s with rxbuf := [], rxErr := false }

/-! The environment's events (R165, R166, R196, R121). -/

/-- LineRx(b) (R165). -/
def lineRx (b : Byte) (s : State) : State :=
  if rxAccepts s then { s with rxbuf := s.rxbuf ++ [b] } else s

/-- LineRxErr (R166). -/
def lineRxErr (s : State) : State := { s with rxErr := rxErrAfterLine s }

/-- Tick (R196). -/
def tick (s : State) : State :=
  if s.teState = .await ∧ 0 < s.timer then { s with timer := s.timer - 1 } else s

/-- The host presents a command (R121). -/
def present (c : Command) (s : State) : State := { s with cmd := some c }

/-- The host withdraws what it presents (R121). -/
def withdraw (s : State) : State := { s with cmd := none }

/-! The engine's actions. -/

/-- The instruction of the command at the interface (R74). -/
def presented (s : State) : Option Instr := s.cmd.map decodeInterface

/-- CONNECT (R122): the command leaves the interface, SA.OPEN, RES_CONN, Done. TE_STATE stays IDLE. -/
def acceptConnect (dev : DevId) (baud : Word) (s : State) : State :=
  emit (.doneConnect (openAnswer dev baud s))
    { saOpen dev baud (withdraw s) with resConn := openAnswer dev baud s, teState := .idle }

/-- READ and WRITE acceptance (R123, R124): the command leaves the interface; a closed channel completes it at once with
E_NOT_OPEN, an open one latches the request. -/
def acceptRequest (op : Opcode) (addr : AddrIn) (data : Word) (s : State) : State :=
  if s.chOpen then
    { withdraw s with reqOp := opTag op, reqAddr := trunc32 addr, reqData := data, attempt := 1, teState := .prep }
  else raise op Config.eNotOpen (withdraw s)

/-- T4 (R125) for an operation and its encoded frame: flush, TXBUF and the counters, TX. -/
def loadRequest (op : Opcode) (f : List Byte) (s : State) : State :=
  { saFlush s with
    txlen := BitVec.ofNat 4 f.length
    txbuf := writeFrame s.txbuf f
    explen := BitVec.ofNat 4 (explenOf op)
    txidx := 0
    rxidx := 0
    teState := .tx }

/-- The byte SA.SEND is asked to send, TXBUF[TXIDX] (R126). -/
def nextTxByte (s : State) : Option Byte := s.txbuf[s.txidx.toNat]?

/-- The rest of T5 (R126) once the byte is sent. -/
def afterSend (s : State) : State :=
  if s.txidx.toNat + 1 = s.txlen.toNat then { s with timer := s.params.respTicks, teState := .await }
  else { s with txidx := s.txidx + 1 }

/-- The rest of T7 (R128) once the byte is stored. -/
def afterStore (s : State) : State :=
  if s.rxidx.toNat + 1 = s.explen.toNat then { s with rxidx := s.explen, teState := .decode }
  else { s with rxidx := s.rxidx + 1 }

/-- T7 (R128): the byte goes to RXFRM[RXIDX]. -/
def storeByte (b : Byte) (s : State) : Out :=
  if h : s.rxidx.toNat < 9 then .next (afterStore { s with rxfrm := s.rxfrm.set s.rxidx.toNat b h })
  else .fault .noSuchBufferByte

/-- RXFRM[0..EXPLEN-1] (R131). -/
def collected (s : State) : List Byte := s.rxfrm.toList.take s.explen.toNat

/-- T10 and T11 (R131, R132) for the bytes of a response: complete with the decoded values, or a failed attempt. -/
def judge (op : Opcode) (bytes : List Byte) (s : State) : State :=
  match dec op bytes with
  | .okRead st v => complete .read st { s with rdata := v }
  | .okWrite st => complete .write st s
  | .err _ => attemptFailed op s

/-- A drawn index kept inside the range R10 gives it. -/
def clampIndex (limit x : BitVec 4) : BitVec 4 := if x ≤ limit then x else limit

/-- The registers at reset (R10, R210): the stated values, and a draw for the others, kept inside the ranges that R10
gives TXIDX, RXIDX and TIMER. -/
def resetRegisters (d : Config.ResetDraw) (s : State) : State :=
  { s with
    reqOp := d.reqOp
    reqAddr := d.reqAddr
    reqData := d.reqData
    resStatus := d.resStatus
    rdata := d.rdata
    resConn := d.resConn
    teState := .idle
    txlen := d.txlen
    txidx := clampIndex 12 d.txidx
    explen := d.explen
    rxidx := clampIndex 9 d.rxidx
    attempt := d.attempt
    timer := min d.timer s.params.respTicks
    txbuf := d.txbuf
    rxfrm := d.rxfrm
    chOpen := false
    cfgDev := d.cfgDev
    cfgBaud := d.cfgBaud
    rxbuf := []
    rxErr := false }

/-- The reset event (R210): it emits nothing, and what the environment holds stays as it is. -/
def resetEvent (s : State) : State :=
  { resetRegisters (Config.resetDraw s.draws) s with draws := s.draws + 1 }

/-- What an internal operation returned. -/
def answer (r : OpResult) (s : State) : State := { s with opResult := r }

end Sys2Proof.Machine
end

