-- ==== Sys2Proof/Machine/Adapter.lean ====
section
/-! DEFINITION. The Serial Adapter's primitives as instructions (spec/42_serial_adapter.md R161 to R164); what a primitive
returns is left in opResult. -/

namespace Sys2Proof.Machine

/-- SA.OPEN (R161). -/
def execSaOpen (dev : DevId) (baud : Word) (s : State) : Out :=
  .next (answer (.answered (openAnswer dev baud s)) (saOpen dev baud s))

/-- SA.SEND (R162). -/
def execSaSend (b : Byte) (s : State) : Out :=
  .next (answer (.answered (sendResult s)) (saSend b s))

/-- SA.RECV (R163). -/
def execSaRecv (s : State) : Out :=
  .next (answer (.received (recvResult s)) (saRecv s))

/-- SA.FLUSH (R164): no result. -/
def execSaFlush (s : State) : Out := .next (saFlush s)

end Sys2Proof.Machine
end

