-- ==== Sys2Proof/Machine/CodecOps.lean ====
section
/-! DEFINITION. The Frame Codec's operations as instructions (spec/40_frame_codec.md): each is a total function of its operands
that reads and writes no register (R90); what it returns is left in opResult. -/

namespace Sys2Proof.Machine

/-- CRC8 (R91). -/
def execCrc8 (bytes : List Byte) (s : State) : Out := .next (answer (.byte (crc8 bytes)) s)

/-- ENC.READ (R93). -/
def execEncRead (addr : Word) (s : State) : Out := .next (answer (.bytes (encRead addr)) s)

/-- ENC.WRITE (R94). -/
def execEncWrite (addr data : Word) (s : State) : Out := .next (answer (.bytes (encWrite addr data)) s)

/-- ENC with TXLENOF and EXPLEN (R95): "For any other `op` the three are not defined". -/
def execEnc (op : Byte) (addr data : Word) (s : State) : Out :=
  match opOfTag op with
  | some o => .next (answer (.encoded (enc o addr data) (txlenOf o) (explenOf o)) s)
  | none => .fault .tagUndefined

/-- DEC (R96): its operand `op` is 0x01 or 0x02. -/
def execDec (op : Byte) (bytes : List Byte) (s : State) : Out :=
  match opOfTag op with
  | some o => .next (answer (.decoded (dec o bytes)) s)
  | none => .fault .tagUndefined

/-- DEC.READ (R98). -/
def execDecRead (bytes : List Byte) (s : State) : Out := .next (answer (.decoded (dec .read bytes)) s)

/-- DEC.WRITE (R99). -/
def execDecWrite (bytes : List Byte) (s : State) : Out := .next (answer (.decoded (dec .write bytes)) s)

/-- DECREQ (R100). -/
def execDecReq (bytes : List Byte) (s : State) : Out := .next (answer (.request (decReq bytes)) s)

end Sys2Proof.Machine
end

