-- ==== Sys2Proof/Machine/Commands.lean ====
section
/-! DEFINITION. The command words READ, WRITE, CONNECT and the reserved word (spec/30_encoding.md R74; spec/41_transaction_engine.md
R121, R122, R135, R136): what the engine does with the word in the step that meets it. The rest of a READ or WRITE is the
engine steps that follow (R139). -/

namespace Sys2Proof.Machine

/-- READ (R135): accepted by T2 when IDLE. -/
def execRead (addr : AddrIn) (_ignored : Word) (s : State) : Out :=
  if s.busy then .refused .commandWhileBusy else .next (acceptRequest .read addr 0 s)

/-- WRITE (R136): accepted by T3 when IDLE. -/
def execWrite (addr : AddrIn) (data : Word) (s : State) : Out :=
  if s.busy then .refused .commandWhileBusy else .next (acceptRequest .write addr data s)

/-- CONNECT (R122): T1, when IDLE. -/
def execConnect (dev : DevId) (baud : Word) (s : State) : Out :=
  if s.busy then .refused .commandWhileBusy else .next (acceptConnect dev baud s)

/-- CMD.RESERVED (R74, D38): "never accepted and changes no state". -/
def execCmdReserved (_a : AddrIn) (_d : Word) (s : State) : Out := .next s

end Sys2Proof.Machine
end

