-- ==== Sys2Proof/Machine/Engine.lean ====
section
/-! DEFINITION. The engine steps T1 to T11 (spec/41_transaction_engine.md R122 to R132) and the reset event
(spec/70_reset_and_hazards.md R210). Each step has the guard its rule gives; R139 says that there is no other step. -/

namespace Sys2Proof.Machine

/-- T1 (R122): IDLE and CONNECT presented. -/
def execT1 (s : State) : Out :=
  match s.teState, presented s with
  | .idle, some (.connect dev baud) => .next (acceptConnect dev baud s)
  | _, _ => .refused (.stepNotEnabled "T1")

/-- T2 (R123): IDLE and READ presented. -/
def execT2 (s : State) : Out :=
  match s.teState, presented s with
  | .idle, some (.read addr _) => .next (acceptRequest .read addr 0 s)
  | _, _ => .refused (.stepNotEnabled "T2")

/-- T3 (R124): IDLE and WRITE presented. -/
def execT3 (s : State) : Out :=
  match s.teState, presented s with
  | .idle, some (.write addr data) => .next (acceptRequest .write addr data s)
  | _, _ => .refused (.stepNotEnabled "T3")

/-- T4 (R125): PREP. -/
def execT4 (s : State) : Out :=
  if s.teState = .prep then
    withLatchedOp s fun op => .next (loadRequest op (enc op s.reqAddr s.reqData) s)
  else .refused (.stepNotEnabled "T4")

/-- T5 (R126): TX and the send answered ok. -/
def execT5 (s : State) : Out :=
  if s.teState = .tx ∧ sendResult s = true then
    match nextTxByte s with
    | some b => .next (afterSend (saSend b s))
    | none => .fault .noSuchBufferByte
  else .refused (.stepNotEnabled "T5")

/-- T6 (R127): TX and the send answered fail; never retried. -/
def execT6 (s : State) : Out :=
  if s.teState = .tx ∧ sendResult s = false then
    match nextTxByte s with
    | some b => withLatchedOp s fun op => .next (raise op Config.eTxFail (saSend b s))
    | none => .fault .noSuchBufferByte
  else .refused (.stepNotEnabled "T6")

/-- T7 (R128): AWAIT, no receive error, a byte waits in RXBUF. -/
def execT7 (s : State) : Out :=
  match s.teState, recvResult s with
  | .await, .byte b => storeByte b (saRecv s)
  | _, _ => .refused (.stepNotEnabled "T7")

/-- T8 (R129): AWAIT and RX_ERR = 1. -/
def execT8 (s : State) : Out :=
  match s.teState, recvResult s with
  | .await, .error => withLatchedOp s fun op => .next (attemptFailed op s)
  | _, _ => .refused (.stepNotEnabled "T8")

/-- T9 (R130): AWAIT, no receive error, RXBUF empty, TIMER = 0. -/
def execT9 (s : State) : Out :=
  match s.teState, recvResult s with
  | .await, .timeout => withLatchedOp s fun op => .next (attemptFailed op s)
  | _, _ => .refused (.stepNotEnabled "T9")

/-- T10 (R131): DECODE and DEC answers Ok. -/
def execT10 (s : State) : Out :=
  if s.teState = .decode then
    withLatchedOp s fun op =>
      if decodedOk (dec op (collected s)) then .next (judge op (collected s) s)
      else .refused (.stepNotEnabled "T10")
  else .refused (.stepNotEnabled "T10")

/-- T11 (R132): DECODE and DEC answers Err. -/
def execT11 (s : State) : Out :=
  if s.teState = .decode then
    withLatchedOp s fun op =>
      if decodedOk (dec op (collected s)) then .refused (.stepNotEnabled "T11")
      else .next (judge op (collected s) s)
  else .refused (.stepNotEnabled "T11")

/-- RESET (R210): in any state. -/
def execReset (s : State) : Out := .next (resetEvent s)

end Sys2Proof.Machine
end

