-- ==== Sys2Proof/Machine/Frames.lean ====
section
/-! DEFINITION. The four frames (spec/30_encoding.md R62 to R65). A request frame is what the engine puts in TXBUF in PREP
(R93, R94, R125); a response frame is what it judges in DECODE (R98, R99, R131, R132). -/

namespace Sys2Proof.Machine

/-- REQ.READ (R62, R93): the frame of the address is encoded and loaded for transmission. The CRC byte is computed, so the
field of the instruction is not used. -/
def execReqRead (addr : Word) (_crc : Byte) (s : State) : Out :=
  if s.teState = .prep then .next (loadRequest .read (encRead addr) s)
  else .refused (.stepNotEnabled "REQ.READ")

/-- REQ.WRITE (R63, R94). -/
def execReqWrite (addr data : Word) (_crc : Byte) (s : State) : Out :=
  if s.teState = .prep then .next (loadRequest .write (encWrite addr data) s)
  else .refused (.stepNotEnabled "REQ.WRITE")

/-- RSP.READ (R64, R98): the collected frame is judged for the outstanding request; a CRC field that is wrong, or another
outstanding opcode, costs the attempt (R132). -/
def execRspRead (status : BitVec 2) (data : Word) (crc : Byte) (s : State) : Out :=
  if s.teState = .decode then
    withLatchedOp s fun op => .next (judge op (rspReadPayload (statusByte status) data ++ [crc, Config.eof]) s)
  else .refused (.stepNotEnabled "RSP.READ")

/-- RSP.WRITE (R65, R99). -/
def execRspWrite (status : BitVec 2) (crc : Byte) (s : State) : Out :=
  if s.teState = .decode then
    withLatchedOp s fun op => .next (judge op (rspWritePayload (statusByte status) ++ [crc, Config.eof]) s)
  else .refused (.stepNotEnabled "RSP.WRITE")

end Sys2Proof.Machine
end

