-- ==== Sys2Proof/Machine/Dispatch.lean ====
section
/-! DEFINITION. One arm per constructor of Instr: the meaning of every row of spec/opcode_table.json. -/

namespace Sys2Proof.Machine

def exec (i : Instr) (s : State) : Host.Outcome State Fault Refusal :=
  match i with
  -- frames (R62 to R65)
  | .reqRead addr crc => Sys2Proof.Machine.execReqRead addr crc s
  | .reqWrite addr data crc => Sys2Proof.Machine.execReqWrite addr data crc s
  | .rspRead status data crc => Sys2Proof.Machine.execRspRead status data crc s
  | .rspWrite status crc => Sys2Proof.Machine.execRspWrite status crc s
  -- command words (R74)
  | .read addr ignored => Sys2Proof.Machine.execRead addr ignored s
  | .write addr data => Sys2Proof.Machine.execWrite addr data s
  | .connect dev baud => Sys2Proof.Machine.execConnect dev baud s
  | .cmdReserved a d => Sys2Proof.Machine.execCmdReserved a d s
  -- the Frame Codec (R91 to R100)
  | .crc8 bytes => Sys2Proof.Machine.execCrc8 bytes s
  | .encRead addr => Sys2Proof.Machine.execEncRead addr s
  | .encWrite addr data => Sys2Proof.Machine.execEncWrite addr data s
  | .enc op addr data => Sys2Proof.Machine.execEnc op addr data s
  | .dec op bytes => Sys2Proof.Machine.execDec op bytes s
  | .decRead bytes => Sys2Proof.Machine.execDecRead bytes s
  | .decWrite bytes => Sys2Proof.Machine.execDecWrite bytes s
  | .decReq bytes => Sys2Proof.Machine.execDecReq bytes s
  -- the Serial Adapter (R161 to R164)
  | .saOpen dev baud => Sys2Proof.Machine.execSaOpen dev baud s
  | .saSend b => Sys2Proof.Machine.execSaSend b s
  | .saRecv => Sys2Proof.Machine.execSaRecv s
  | .saFlush => Sys2Proof.Machine.execSaFlush s
  -- the Transaction Engine (R122 to R132)
  | .t1 => Sys2Proof.Machine.execT1 s
  | .t2 => Sys2Proof.Machine.execT2 s
  | .t3 => Sys2Proof.Machine.execT3 s
  | .t4 => Sys2Proof.Machine.execT4 s
  | .t5 => Sys2Proof.Machine.execT5 s
  | .t6 => Sys2Proof.Machine.execT6 s
  | .t7 => Sys2Proof.Machine.execT7 s
  | .t8 => Sys2Proof.Machine.execT8 s
  | .t9 => Sys2Proof.Machine.execT9 s
  | .t10 => Sys2Proof.Machine.execT10 s
  | .t11 => Sys2Proof.Machine.execT11 s
  -- the reset event (R210)
  | .reset => Sys2Proof.Machine.execReset s

end Sys2Proof.Machine
end

