-- ==== Sys2Proof/Machine/Sequencer.lean ====
section
/-! DEFINITION. Which step is enabled (spec/41_transaction_engine.md R139), whose turn it is (spec/00_scope.md R7), and how a table
row's word is laid where the engine meets it next. -/

namespace Sys2Proof.Machine

/-- The engine step that a command enables in IDLE (R121 to R124). The reserved word enables none of T1 to T3 and runs
as its own row, which changes nothing (R74). -/
def commandStep (c : Command) : Instr :=
  match decodeInterface c with
  | .connect _ _ => .t1
  | .read _ _ => .t2
  | .write _ _ => .t3
  | i => i

/-- The step AWAIT takes, by the priority of R191; none when the engine waits. -/
def awaitStep (s : State) : Option Instr :=
  match recvResult s with
  | .error => some .t8
  | .byte _ => some .t7
  | .timeout => some .t9
  | .wait => none

/-- DEC of the collected bytes answers Ok; a reserved tag, for which R95 defines nothing, counts as Err. -/
def collectedOk (s : State) : Bool :=
  match opOfTag s.reqOp with
  | some op => decodedOk (dec op (collected s))
  | none => false

/-- The one step the engine can take (R139), the row's label; none when it waits. -/
def enabledStep (s : State) : Option Instr :=
  match s.teState with
  | .idle => s.cmd.map commandStep
  | .prep => some .t4
  | .tx => if sendResult s then some .t5 else some .t6
  | .await => awaitStep s
  | .decode => if collectedOk s then some .t10 else some .t11

/-- What happens next: an instruction to run in a state, or none and the state that the environment's event leaves. -/
def nextAction (s : State) : Option Instr × State :=
  match s.schedule with
  | [] => (enabledStep s, s)
  | .engine :: rest => (enabledStep s, { s with schedule := rest })
  | .lineRx b :: rest => (none, lineRx b { s with schedule := rest })
  | .lineRxErr :: rest => (none, lineRxErr { s with schedule := rest })
  | .tick :: rest => (none, tick { s with schedule := rest })
  | .reset :: rest => (some .reset, { s with schedule := rest })
  | .present c :: rest => (none, present c { s with schedule := rest })
  | .withdraw :: rest => (none, withdraw { s with schedule := rest })

/-- The next turn is the engine's: an empty schedule says so, another gets the turn in front. -/
def engineNext (s : State) : State :=
  match s.schedule with
  | [] => s
  | t :: rest => { s with schedule := .engine :: t :: rest }

/-- A command stands at the interface of an IDLE engine (R121). -/
def placeCommand (c : Command) (s : State) : State :=
  { s with cmd := some c, teState := .idle }

/-- A request is latched (R11) whose encoding is the request frame of these bytes (R62, R63); PREP builds it next. -/
def placeRequest (bytes : List Byte) (s : State) : State :=
  { s with
    reqOp := byteAt bytes 1
    reqAddr := unbe32At bytes 2
    reqData := if byteAt bytes 1 = Config.tagWrite then unbe32At bytes 6 else 0
    teState := .prep }

/-- The bytes of a response frame are collected (R19) for the operation they echo; DECODE judges them next. -/
def placeResponse (op : Opcode) (bytes : List Byte) (s : State) : State :=
  { s with
    reqOp := opTag op
    rxfrm := writeResponse s.rxfrm bytes
    explen := BitVec.ofNat 4 (explenOf op)
    rxidx := BitVec.ofNat 4 (explenOf op)
    teState := .decode }

/-- A code where the engine meets it next. -/
def placeCode (c : Code) (s : State) : State :=
  match c with
  | .command c => placeCommand c s
  | .frame bytes =>
    match bytes.length with
    | 9 => placeResponse .read bytes s
    | 5 => placeResponse .write bytes s
    | _ => placeRequest bytes s

/-- A table row's number where the engine meets it next, with the engine to move. -/
def placeTableWord (s : State) (nbits w : Nat) : State :=
  match codeOfTableWord nbits w with
  | some c => engineNext (placeCode c s)
  | none => s

end Sys2Proof.Machine
end

