-- ==== Sys2Proof/Machine/Step.lean ====
section
/-! DEFINITION. One step of the machine: an event of the environment, or the engine's enabled step run by exec
(spec/00_scope.md R6, R7; spec/41_transaction_engine.md R139). An engine that waits changes nothing. -/

namespace Sys2Proof.Machine

/-- One step. -/
def step (s : State) : Host.Outcome State Fault Refusal :=
  match nextAction s with
  | (some i, t) => exec i t
  | (none, t) => .next t

/-- The state in which the very next step runs the instruction of a table row's number (notes/assumptions/9). -/
def State.withFetchWord (s : State) (nbits w : Nat) : State := placeTableWord s nbits w

end Sys2Proof.Machine
end

