-- ==== Sys2Proof/Machine/Peer.lean ====
section
/-! DEFINITION. The peer contract (spec/30_encoding.md R76) as reference functions: what a conforming peer sends for the bytes of
one request. The peer is environment (R7, R41): no step calls these; a claim may take them as a premise. -/

namespace Sys2Proof.Machine

/-- What the peer's one AXI access answered: the response code, and the word a read returned. -/
structure BusReply where
  code : BitVec 2
  data : Word
deriving DecidableEq, Repr

/-- The access a well-formed request asks of the peer's bus; none for bytes that DECREQ rejects (R76 items 1 to 3). -/
def peerAccess (request : List Byte) : Option (Opcode × Word × Word) :=
  match decReq request with
  | .okRead a => some (.read, a, 0)
  | .okWrite a d => some (.write, a, d)
  | .err _ => none

/-- The bytes the peer sends back (R76): nothing to a request it ignores, else the response frame of the bus's answer. -/
def peerAnswer (bus : BusReply) (request : List Byte) : List Byte :=
  match peerAccess request with
  | none => []
  | some (.read, _, _) => rspEncRead (statusByte bus.code) bus.data
  | some (.write, _, _) => rspEncWrite (statusByte bus.code)

end Sys2Proof.Machine
end

