-- ==== Sys2Proof/Safety.lean ====
section
/-! DEFINITION. The terms that claims use: the invariant of spec/10_state.md R29, the progress measure behind the termination of
spec/41_transaction_engine.md R138, error patterns on a frame (spec/40_frame_codec.md R92, R102), and the schedules of a run. -/

namespace Sys2Proof.Machine

/-- The registers of a transaction in progress hold the latched operation's lengths (R10, R15). -/
def LengthsOf (op : Opcode) (s : State) : Prop :=
  s.explen.toNat = explenOf op ∧ opOfTag s.reqOp = some op

/-- The invariant: R29 items 1 to 6, the value ranges of R10, and that the parameters are among those R5 allows. -/
structure Inv (s : State) : Prop where
  params : s.params.valid
  channelOpen : s.teState ≠ .idle → s.chOpen = true
  request : s.teState ≠ .idle → ∃ op, opOfTag s.reqOp = some op
  attempts : s.teState ≠ .idle → 1 ≤ s.attempt ∧ s.attempt ≤ s.params.maxAttempts
  sending : s.teState = .tx → ∃ op, LengthsOf op s ∧ s.txlen.toNat = txlenOf op ∧
    s.txbuf.toList.take (txlenOf op) = enc op s.reqAddr s.reqData ∧ s.txidx.toNat < txlenOf op ∧ s.rxidx = 0
  awaiting : s.teState = .await → ∃ op, LengthsOf op s ∧ s.rxidx.toNat < explenOf op ∧
    s.timer ≤ s.params.respTicks
  decoding : s.teState = .decode → ∃ op, LengthsOf op s ∧ s.rxidx = s.explen
  depth : ∀ d, s.params.rxDepth = some d → s.rxbuf.length ≤ d
  txidxRange : s.txidx.toNat ≤ 12
  rxidxRange : s.rxidx.toNat ≤ 9
  timerRange : s.timer ≤ s.params.respTicks

/-- The status values of R181. -/
def legalStatus (st : Byte) : Prop :=
  st = Config.okay ∨ st = Config.exokay ∨ st = Config.slverr ∨ st = Config.decerr ∨
    st = Config.eNotOpen ∨ st = Config.eTxFail ∨ st = Config.eNoResponse

/-- The next turn is the engine's. -/
def engineTurn (s : State) : Prop := s.schedule = [] ∨ ∃ rest, s.schedule = .engine :: rest

/-- The next turn is a reset event. -/
def resetTurn (s : State) : Prop := ∃ rest, s.schedule = .reset :: rest

/-- The state the engine's step runs in: the turn is used up. -/
def turnTaken (s : State) : State := { s with schedule := s.schedule.tail }

/-- How far the current attempt is from its end, in engine steps and ticks. -/
def attemptWork (s : State) : Nat :=
  match s.teState with
  | .idle => 0
  | .prep => s.params.respTicks + 24
  | .tx => (s.txlen.toNat - s.txidx.toNat) + s.params.respTicks + 11
  | .await => s.timer + (s.explen.toNat - s.rxidx.toNat) + 1
  | .decode => 1

/-- How far the current command is from its Done event (R138): zero exactly in IDLE. -/
def workLeft (s : State) : Nat :=
  match s.teState with
  | .idle => 0
  | .prep => (s.params.maxAttempts - s.attempt) * (s.params.respTicks + 24) + attemptWork s
  | .tx => (s.params.maxAttempts - s.attempt) * (s.params.respTicks + 24) + attemptWork s
  | .await => (s.params.maxAttempts - s.attempt) * (s.params.respTicks + 24) + attemptWork s
  | .decode => (s.params.maxAttempts - s.attempt) * (s.params.respTicks + 24) + attemptWork s

/-- Bytewise XOR of two sequences (R92). -/
def xorBytes (s t : List Byte) : List Byte := List.zipWith (· ^^^ ·) s t

/-- The bits set in a byte. -/
def bitsOfByte (b : Byte) : Nat := ((List.range 8).filter fun i => b.getLsbD i).length

/-- The bits set in a sequence: the weight of an error pattern. -/
def bitsSet : List Byte → Nat
  | [] => 0
  | b :: rest => bitsOfByte b + bitsSet rest

/-- One bit of one byte flipped (R102). -/
def flipBit (f : List Byte) (k bit : Nat) : List Byte := f.set k (byteAt f k ^^^ ((1 : Byte) <<< bit))

/-- The check of a span holds: its last byte is CRC8 of the bytes before it (R69). -/
def checkHolds (span : List Byte) : Prop := span.getLast? = some (crc8 span.dropLast)

/-- `n` steps, stopping at the first fault or refusal. -/
def runSteps : Nat → State → Out
  | 0, s => .next s
  | n + 1, s =>
    match step s with
    | .next t => runSteps n t
    | .fault f => .fault f
    | .refused r => .refused r

/-- The turns of one attempt on a silent line: T4, the sends, the ticks, T9 (R235). -/
def silentAttempt (op : Opcode) (ticks : Nat) : List Turn :=
  List.replicate (txlenOf op + 1) .engine ++ List.replicate ticks .tick ++ [.engine]

/-- The turns of `n` such attempts. -/
def silentAttempts (op : Opcode) (ticks : Nat) : Nat → List Turn
  | 0 => []
  | n + 1 => silentAttempt op ticks ++ silentAttempts op ticks n

/-- The turns of one attempt that is answered: T4, the sends, the response's bytes, T7 for each, T10 or T11. -/
def answeredAttempt (op : Opcode) (response : List Byte) : List Turn :=
  List.replicate (txlenOf op + 1) .engine ++ response.map .lineRx ++ List.replicate (response.length + 1) .engine

/-- The events of one complete transmission: the flush and the frame's bytes in order (R125, R126). -/
def frameEvents (f : List Byte) : List Event := .flush :: f.map .tx

/-- The events of `n` such transmissions. -/
def framesEvents (f : List Byte) : Nat → List Event
  | 0 => []
  | n + 1 => frameEvents f ++ framesEvents f n

end Sys2Proof.Machine
end

