-- ==== Sys2Proof/Certificates/Slice0/Obligations.lean ====
section
/-! DEFINITION. The statements for the provers. A next state is written as an update of the state before, so that every
register, buffer and event the statement does not name is unchanged. OBLIGATIONS.json says which rule each one formalises. -/

open Sys2Proof Sys2Proof.Machine

/-! ## The Frame Codec -/

/-- R91: the algorithm byte by byte, its corner cases, and CRC8 as an operation that writes no register. -/
def Obligations.ChecksumIsCrc8 : Prop :=
  (∀ (bytes : List Byte) (s : State), exec (.crc8 bytes) s = .next { s with opResult := .byte (crc8 bytes) }) ∧
  crc8 [] = 0x00 ∧
  (∀ (bytes : List Byte) (b : Byte), crc8 (bytes ++ [b]) =
    Nat.repeat (fun c : Byte => if c.getLsbD 7 then (c <<< 1) ^^^ 0x07 else c <<< 1) 8 (crc8 bytes ^^^ b)) ∧
  (∀ bytes : List Byte, crc8 (0x00 :: bytes) = crc8 bytes) ∧
  crc8 [0x01] = 0x07 ∧ crc8 [0x02] = 0x0E ∧ crc8 [0x80] = 0x89 ∧ crc8 [0xA5] = 0x72 ∧ crc8 [0xFF] = 0xF3 ∧
  crc8 [0xA5, 0x01] = 0x5E ∧ crc8 [0x31, 0x32, 0x33, 0x34, 0x35, 0x36, 0x37, 0x38, 0x39] = 0xF4

/-- R92, law 1. -/
def Obligations.ChecksumIsLinear : Prop :=
  ∀ a b : List Byte, a.length = b.length → crc8 (xorBytes a b) = crc8 a ^^^ crc8 b

/-- R92, law 2. -/
def Obligations.ChecksumOfCheckedBytesIsZero : Prop :=
  ∀ bytes : List Byte, crc8 (bytes ++ [crc8 bytes]) = 0x00

/-- R92, law 3: one, two or three flipped bits in the covered bytes and the CRC byte of any of the four frame types. -/
def Obligations.ChecksumDetectsUpToThreeFlips : Prop :=
  ∀ span error : List Byte, (span.length = 4 ∨ span.length = 7 ∨ span.length = 8 ∨ span.length = 11) →
    error.length = span.length → 1 ≤ bitsSet error → bitsSet error ≤ 3 → checkHolds span →
      ¬ checkHolds (xorBytes span error)

/-- R92, law 4: an odd number of flipped bits. -/
def Obligations.ChecksumDetectsOddFlips : Prop :=
  ∀ span error : List Byte, error.length = span.length → bitsSet error % 2 = 1 → checkHolds span →
    ¬ checkHolds (xorBytes span error)

/-- R93, R94: the frames byte by byte, as results of ENC.READ and ENC.WRITE, which write no register. -/
def Obligations.EncodersReturnTheFrame : Prop :=
  (∀ (a : Word) (s : State),
    let p : List Byte := [0xA5, 0x01, a.extractLsb' 24 8, a.extractLsb' 16 8, a.extractLsb' 8 8, a.extractLsb' 0 8]
    exec (.encRead a) s = .next { s with opResult := .bytes (p ++ [crc8 p, 0x5A]) }) ∧
  (∀ (a d : Word) (s : State),
    let p : List Byte := [0xA5, 0x02, a.extractLsb' 24 8, a.extractLsb' 16 8, a.extractLsb' 8 8, a.extractLsb' 0 8,
      d.extractLsb' 24 8, d.extractLsb' 16 8, d.extractLsb' 8 8, d.extractLsb' 0 8]
    exec (.encWrite a d) s = .next { s with opResult := .bytes (p ++ [crc8 p, 0x5A]) })

/-- R95: ENC, TXLENOF and EXPLEN for the two tags. -/
def Obligations.EncoderByTag : Prop :=
  ∀ (a d : Word) (s : State),
    exec (.enc 0x01 a d) s = .next { s with opResult := .encoded (encRead a) 8 9 } ∧
    exec (.enc 0x02 a d) s = .next { s with opResult := .encoded (encWrite a d) 12 5 }

/-- R96: the checks in their fixed order, the values of step 7, and that only the first L bytes are examined. -/
def Obligations.DecoderReportsTheFirstDefect : Prop :=
  ∀ (op : Opcode) (L : Nat) (tag : Byte), (op = .read ∧ L = 9 ∧ tag = 0x01 ∨ op = .write ∧ L = 5 ∧ tag = 0x02) →
    ∀ s : List Byte,
      (s.length < L → dec op s = .err .truncated) ∧
      (L ≤ s.length →
        (s.getD (L - 1) 0 ≠ 0x5A → dec op s = .err .truncated) ∧
        (s.getD (L - 1) 0 = 0x5A →
          (s.getD (L - 2) 0 ≠ crc8 (s.take (L - 2)) → dec op s = .err .checksum) ∧
          (s.getD (L - 2) 0 = crc8 (s.take (L - 2)) →
            (s.getD 0 0 ≠ 0xA5 → dec op s = .err .badStart) ∧
            (s.getD 0 0 = 0xA5 →
              (s.getD 1 0 ≠ tag → dec op s = .err .opcode) ∧
              (s.getD 1 0 = tag →
                ((s.getD 2 0).extractLsb' 2 6 ≠ 0 → dec op s = .err .badStatus) ∧
                ((s.getD 2 0).extractLsb' 2 6 = 0 →
                  (op = .read → dec op s =
                    .okRead (s.getD 2 0) (joinBytes (s.getD 3 0) (s.getD 4 0) (s.getD 5 0) (s.getD 6 0))) ∧
                  (op = .write → dec op s = .okWrite (s.getD 2 0))))))) ∧
        ∀ more : List Byte, dec op (s ++ more) = dec op s)

/-- R96, R98, R99 as operations: what DEC, DEC.READ and DEC.WRITE return, and that they write no register. -/
def Obligations.DecodersReturnTheirValue : Prop :=
  ∀ (bytes : List Byte) (s : State),
    exec (.dec 0x01 bytes) s = .next { s with opResult := .decoded (dec .read bytes) } ∧
    exec (.dec 0x02 bytes) s = .next { s with opResult := .decoded (dec .write bytes) } ∧
    exec (.decRead bytes) s = .next { s with opResult := .decoded (dec .read bytes) } ∧
    exec (.decWrite bytes) s = .next { s with opResult := .decoded (dec .write bytes) }

/-- R95 defines ENC and EXPLEN, and so DEC, for the two tags only; for any other the model stops by name, as an operand and
where a step reads REQ_OP, which is the model's reading (notes/assumptions/6). No state of the invariant does. -/
def Obligations.ReservedTagsStop : Prop :=
  (∀ (op : Byte) (a d : Word) (bytes : List Byte) (s : State), op ≠ 0x01 → op ≠ 0x02 →
    exec (.enc op a d) s = .fault .tagUndefined ∧ exec (.dec op bytes) s = .fault .tagUndefined) ∧
  (∀ (st : BitVec 2) (v : Word) (c : Byte) (s : State), s.reqOp ≠ 0x01 → s.reqOp ≠ 0x02 →
    (s.teState = .prep → exec .t4 s = .fault .tagUndefined) ∧
    (s.teState = .tx → sendResult s = false → s.txidx.toNat < 12 → exec .t6 s = .fault .tagUndefined) ∧
    (s.teState = .await → s.rxErr = true → exec .t8 s = .fault .tagUndefined) ∧
    (s.teState = .await → s.rxErr = false → s.rxbuf = [] → s.timer = 0 → exec .t9 s = .fault .tagUndefined) ∧
    (s.teState = .decode → exec .t10 s = .fault .tagUndefined ∧ exec .t11 s = .fault .tagUndefined ∧
      exec (.rspRead st v c) s = .fault .tagUndefined ∧ exec (.rspWrite st c) s = .fault .tagUndefined))

/-- R65, R99: of the five-byte sequences exactly four are well-formed RSP.WRITE frames, and exactly those decode. -/
def Obligations.FourWriteResponses : Prop :=
  ∀ bytes : List Byte, bytes.length = 5 →
    let four : List (List Byte) := [[0xA5, 0x02, 0x00, 0xA2, 0x5A], [0xA5, 0x02, 0x01, 0xA5, 0x5A],
      [0xA5, 0x02, 0x02, 0xAC, 0x5A], [0xA5, 0x02, 0x03, 0xAB, 0x5A]]
    ((∃ i : Instr, decode (.frame bytes) = .ok i ∧ i.wf = true) ↔ bytes ∈ four) ∧
    ((∃ st : Byte, dec .write bytes = .okWrite st) ↔ bytes ∈ four)

/-- R100: DECREQ as an operation, with its checks in order, the length from the received OP byte. -/
def Obligations.RequestDecoderReportsTheFirstDefect : Prop :=
  (∀ (bytes : List Byte) (s : State), exec (.decReq bytes) s = .next { s with opResult := .request (decReq bytes) }) ∧
  ∀ bytes : List Byte,
    (bytes.length < 2 → decReq bytes = .err .truncated) ∧
    (2 ≤ bytes.length → bytes.getD 1 0 ≠ 0x01 → bytes.getD 1 0 ≠ 0x02 → decReq bytes = .err .opcode) ∧
    ∀ L : Nat, 2 ≤ bytes.length → (bytes.getD 1 0 = 0x01 ∧ L = 8 ∨ bytes.getD 1 0 = 0x02 ∧ L = 12) →
      (bytes.length < L ∨ bytes.getD (L - 1) 0 ≠ 0x5A → decReq bytes = .err .truncated) ∧
      (L ≤ bytes.length → bytes.getD (L - 1) 0 = 0x5A →
        (bytes.getD (L - 2) 0 ≠ crc8 (bytes.take (L - 2)) → decReq bytes = .err .checksum) ∧
        (bytes.getD (L - 2) 0 = crc8 (bytes.take (L - 2)) →
          (bytes.getD 0 0 ≠ 0xA5 → decReq bytes = .err .badStart) ∧
          (bytes.getD 0 0 = 0xA5 →
            (L = 8 → decReq bytes = .okRead
              (joinBytes (bytes.getD 2 0) (bytes.getD 3 0) (bytes.getD 4 0) (bytes.getD 5 0))) ∧
            (L = 12 → decReq bytes = .okWrite
              (joinBytes (bytes.getD 2 0) (bytes.getD 3 0) (bytes.getD 4 0) (bytes.getD 5 0))
              (joinBytes (bytes.getD 6 0) (bytes.getD 7 0) (bytes.getD 8 0) (bytes.getD 9 0))))))

/-- R101: the round trip of requests and of responses, the converse for responses, and that ENC is injective. -/
def Obligations.CodecRoundTrip : Prop :=
  (∀ a : Word, decReq (encRead a) = .okRead a) ∧
  (∀ a d : Word, decReq (encWrite a d) = .okWrite a d) ∧
  (∀ (st : Byte) (v : Word), st ≤ 3 → dec .read (rspEncRead st v) = .okRead st v) ∧
  (∀ st : Byte, st ≤ 3 → dec .write (rspEncWrite st) = .okWrite st) ∧
  (∀ (s : List Byte) (st : Byte) (v : Word), s.length = 9 → dec .read s = .okRead st v → s = rspEncRead st v) ∧
  (∀ (s : List Byte) (st : Byte), s.length = 5 → dec .write s = .okWrite st → s = rspEncWrite st) ∧
  (∀ a a' : Word, encRead a = encRead a' → a = a') ∧
  (∀ a a' d d' : Word, encWrite a d = encWrite a' d' → a = a' ∧ d = d') ∧
  (∀ a a' d' : Word, encRead a ≠ encWrite a' d')

/-- R102, first and second item: the kind that each single-bit flip of a well-formed frame gives. -/
def Obligations.SingleFlipKinds : Prop :=
  (∀ (st : BitVec 2) (v : Word) (k bit : Nat), k < 9 → bit < 8 →
    dec .read (flipBit (rspEncRead (st.setWidth 8) v) k bit) = .err (if k = 8 then .truncated else .checksum)) ∧
  (∀ (st : BitVec 2) (k bit : Nat), k < 5 → bit < 8 →
    dec .write (flipBit (rspEncWrite (st.setWidth 8)) k bit) = .err (if k = 4 then .truncated else .checksum)) ∧
  (∀ (a : Word) (k bit : Nat), k < 8 → bit < 8 →
    decReq (flipBit (encRead a) k bit) =
      .err (if k = 7 then .truncated else if k = 1 then .opcode else .checksum)) ∧
  (∀ (a d : Word) (k bit : Nat), k < 12 → bit < 8 →
    decReq (flipBit (encWrite a d) k bit) =
      .err (if k = 11 then .truncated else if k = 1 then .opcode else .checksum))

/-- R102, third item: no change of one, two or three bits anywhere in a frame yields Ok, for responses and for READ requests,
and for WRITE requests with one exception, a change that turns their OP byte into that of a READ; what DECREQ gives then
is R100's to say, and it can be Ok (notes/assumptions/15). -/
def Obligations.NoSmallChangeOfAResponseIsAccepted : Prop :=
  (∀ (st : BitVec 2) (v : Word) (error : List Byte), error.length = 9 → 1 ≤ bitsSet error → bitsSet error ≤ 3 →
    ∃ k : DecodeError, dec .read (xorBytes (rspEncRead (st.setWidth 8) v) error) = .err k) ∧
  (∀ (st : BitVec 2) (error : List Byte), error.length = 5 → 1 ≤ bitsSet error → bitsSet error ≤ 3 →
    ∃ k : DecodeError, dec .write (xorBytes (rspEncWrite (st.setWidth 8)) error) = .err k) ∧
  (∀ (a : Word) (error : List Byte), error.length = 8 → 1 ≤ bitsSet error → bitsSet error ≤ 3 →
    ∃ k : DecodeError, decReq (xorBytes (encRead a) error) = .err k) ∧
  (∀ (a d : Word) (error : List Byte), error.length = 12 → 1 ≤ bitsSet error → bitsSet error ≤ 3 →
    error.getD 1 0 ≠ 0x03 → ∃ k : DecodeError, decReq (xorBytes (encWrite a d) error) = .err k)

/-- R76 items 1 to 3: what a conforming peer sends for a request the block encoded, and for a damaged READ request. -/
def Obligations.PeerAnswersWellFormedRequests : Prop :=
  (∀ (bus : BusReply) (a : Word), peerAccess (encRead a) = some (.read, a, 0) ∧
    peerAnswer bus (encRead a) = rspEncRead (bus.code.setWidth 8) bus.data) ∧
  (∀ (bus : BusReply) (a d : Word), peerAccess (encWrite a d) = some (.write, a, d) ∧
    peerAnswer bus (encWrite a d) = rspEncWrite (bus.code.setWidth 8)) ∧
  (∀ (bus : BusReply) (bytes : List Byte) (k : DecodeError), decReq bytes = .err k →
    peerAccess bytes = none ∧ peerAnswer bus bytes = [])

/-! ## Encodings -/

/-- The encoder and the decoder are inverse to each other on every row that has an encoding (R60 to R65, R74). -/
def Obligations.DecodeAndEncodeAreInverse : Prop :=
  ∀ (i : Instr) (c : Code), encode i = some c ↔ decode c = .ok i

/-- Words written out from R62 to R65, R74 and R77 decode to the rows they stand for; so does a CONNECT whose identifier,
the nine bytes of "/dev/tty0", travels beside the word (the form is the model's, notes/assumptions/4). -/
def Obligations.WrittenWordsDecode : Prop :=
  decode (.frame [0xA5, 0x01, 0x00, 0x00, 0x10, 0x00, 0x6F, 0x5A]) = .ok (.reqRead 0x1000 0x6F) ∧
  decode (.frame [0xA5, 0x02, 0x00, 0x00, 0x10, 0x00, 0xDE, 0xAD, 0xBE, 0xEF, 0xC6, 0x5A]) =
    .ok (.reqWrite 0x1000 0xDEADBEEF 0xC6) ∧
  decode (.frame [0xA5, 0x01, 0x00, 0xDE, 0xAD, 0xBE, 0xEF, 0x62, 0x5A]) = .ok (.rspRead 0 0xDEADBEEF 0x62) ∧
  decode (.frame [0xA5, 0x02, 0x02, 0xAC, 0x5A]) = .ok (.rspWrite 2 0xAC) ∧
  decode (.command (.word 0x1000000000000100000000000)) = .ok (.read 0x1000 0) ∧
  decode (.command (.word 0x20000000000001000DEADBEEF)) = .ok (.write 0x1000 0xDEADBEEF) ∧
  decode (.command (.word 0x300000000000000010001C200)) = .ok (.connect (.token 1) 115200) ∧
  decode (.command (.wideConnect [0x2F, 0x64, 0x65, 0x76, 0x2F, 0x74, 0x74, 0x79, 0x30] 115200)) =
    .ok (.connect (.wide [0x2F, 0x64, 0x65, 0x76, 0x2F, 0x74, 0x74, 0x79, 0x30]) 115200) ∧
  decode (.command (.word 0x0FFFFFFFFFFFFFFFF00000001)) = .ok (.cmdReserved 0xFFFFFFFFFFFFFFFF 1)

/-- R42: the address is truncated with no check and no error; operands that agree in their low 32 bits act alike. -/
def Obligations.UpperAddressBitsAreDiscarded : Prop :=
  (∀ (a : AddrIn) (x d : Word) (s : State), s.teState = .idle → s.chOpen = true →
    (∃ t, exec (.read a x) s = .next t ∧ t.reqAddr = a.extractLsb' 0 32) ∧
    (∃ t, exec (.write a d) s = .next t ∧ t.reqAddr = a.extractLsb' 0 32)) ∧
  (∀ (a b : AddrIn) (x d : Word) (s : State), a.extractLsb' 0 32 = b.extractLsb' 0 32 →
    exec (.read a x) s = exec (.read b x) s ∧ exec (.write a d) s = exec (.write b d) s)

/-! ## The Serial Adapter and the line -/

/-- R161: SA.OPEN closes, empties and clears, and opens with the operands when the environment answers ok. -/
def Obligations.OpenResult : Prop :=
  ∀ (dev : DevId) (baud : Word) (rest : List Bool) (s : State),
    (s.openAnswers = true :: rest → exec (.saOpen dev baud) s = .next
      { s with chOpen := true, cfgDev := dev, cfgBaud := baud, rxbuf := [], rxErr := false, openAnswers := rest,
               opResult := .answered true }) ∧
    (s.openAnswers = false :: rest → exec (.saOpen dev baud) s = .next
      { s with chOpen := false, rxbuf := [], rxErr := false, openAnswers := rest, opResult := .answered false }) ∧
    (s.openAnswers = [] → ∃ r : Bool, exec (.saOpen dev baud) s = .next
      { s with chOpen := r, cfgDev := if r then dev else s.cfgDev, cfgBaud := if r then baud else s.cfgBaud,
               rxbuf := [], rxErr := false, draws := s.draws + 1, opResult := .answered r })

/-- R162: SA.SEND fails on a closed channel and else returns the line's answer, with Tx exactly when it is ok. -/
def Obligations.SendResult : Prop :=
  ∀ (b : Byte) (rest : List Bool) (s : State),
    (s.chOpen = false → exec (.saSend b) s = .next { s with opResult := .answered false }) ∧
    (s.chOpen = true → s.sendAnswers = true :: rest → exec (.saSend b) s = .next
      { s with trace := s.trace ++ [.tx b], sendAnswers := rest, opResult := .answered true }) ∧
    (s.chOpen = true → s.sendAnswers = false :: rest → exec (.saSend b) s = .next
      { s with sendAnswers := rest, opResult := .answered false }) ∧
    (s.chOpen = true → s.sendAnswers = [] → ∃ r : Bool, exec (.saSend b) s = .next
      { s with trace := if r then s.trace ++ [.tx b] else s.trace, draws := s.draws + 1, opResult := .answered r })

/-- R163: the four results of SA.RECV in their order. -/
def Obligations.ReceiveByPriority : Prop :=
  ∀ s : State,
    (s.rxErr = true → exec .saRecv s = .next { s with opResult := .received .error }) ∧
    (∀ (b : Byte) (rest : List Byte), s.rxErr = false → s.rxbuf = b :: rest →
      exec .saRecv s = .next { s with rxbuf := rest, opResult := .received (.byte b) }) ∧
    (s.rxErr = false → s.rxbuf = [] → s.timer = 0 → exec .saRecv s = .next { s with opResult := .received .timeout }) ∧
    (s.rxErr = false → s.rxbuf = [] → 0 < s.timer → exec .saRecv s = .next { s with opResult := .received .wait })

/-- R164: SA.FLUSH. -/
def Obligations.FlushDiscardsWhatArrived : Prop :=
  ∀ s : State, exec .saFlush s = .next { s with rxbuf := [], rxErr := false, trace := s.trace ++ [.flush] }

/-- R165: a character arrives. -/
def Obligations.ArrivingByteIsBufferedOrDropped : Prop :=
  ∀ (b : Byte) (rest : List Turn) (s : State), s.schedule = .lineRx b :: rest →
    (s.chOpen = true → (∀ d, s.params.rxDepth = some d → s.rxbuf.length < d) →
      step s = .next { s with schedule := rest, rxbuf := s.rxbuf ++ [b] }) ∧
    (s.chOpen = false → step s = .next { s with schedule := rest }) ∧
    (∀ d, s.params.rxDepth = some d → d ≤ s.rxbuf.length → step s = .next { s with schedule := rest })

/-- R166, R23: a receive failure sets the flag of an open channel, and the flag stays set until the next SA.FLUSH or SA.OPEN
or a reset event: of all instructions only those two, the ones that contain them, and RESET clear it; and a step clears it
only as T4, as a CONNECT or as a reset turn. That a request frame's row is run as T4 is run is the model's choice
(notes/assumptions/9). -/
def Obligations.ReceiveFailureIsSticky : Prop :=
  (∀ (rest : List Turn) (s : State), s.schedule = .lineRxErr :: rest →
    (s.chOpen = true → step s = .next { s with schedule := rest, rxErr := true }) ∧
    (s.chOpen = false → step s = .next { s with schedule := rest })) ∧
  (∀ (i : Instr) (s t : State), exec i s = .next t → s.rxErr = true → t.rxErr = false →
    i = .saFlush ∨ (∃ dev baud, i = .saOpen dev baud) ∨
    i = .t4 ∨ (∃ a c, i = .reqRead a c) ∨ (∃ a d c, i = .reqWrite a d c) ∨
    i = .t1 ∨ (∃ dev baud, i = .connect dev baud) ∨ i = .reset) ∧
  (∀ s t : State, step s = .next t → s.rxErr = true → t.rxErr = false →
    resetTurn s ∨ engineTurn s ∧
      (s.teState = .prep ∨
        s.teState = .idle ∧ ∃ (c : Command) (dev : DevId) (baud : Word),
          s.cmd = some c ∧ decode (.command c) = .ok (.connect dev baud)))

/-- R196, the pseudocode of Tick: it counts only in AWAIT and only down to zero. -/
def Obligations.TickCountsOnlyInAwait : Prop :=
  ∀ (rest : List Turn) (s : State), s.schedule = .tick :: rest →
    (s.teState = .await → 0 < s.timer → step s = .next { s with schedule := rest, timer := s.timer - 1 }) ∧
    (s.teState ≠ .await ∨ s.timer = 0 → step s = .next { s with schedule := rest })

/-! ## The commands -/

/-- R122: CONNECT as a command and as T1, its identifier in the word or beside it, for every answer of the environment: it sends nothing and starts no timer; a
second CONNECT with the same operands and answer leaves the block as one does (corner case b). What becomes of the word at
the interface is CommandInterface's to say. -/
def Obligations.ConnectOpensOrCloses : Prop :=
  ∀ (dev : DevId) (baud : Word) (rest : List Bool) (s : State), s.teState = .idle →
    ∀ i : Instr, (i = .connect dev baud ∨
      i = .t1 ∧ ((∃ v, dev = .token v ∧ s.cmd = some (.word (commandWord 0b11 v baud))) ∨
        ∃ name, dev = .wide name ∧ s.cmd = some (.wideConnect name baud))) →
      ∃ t, exec i s = .next t ∧
      (s.openAnswers = true :: rest → t =
        { s with chOpen := true, cfgDev := dev, cfgBaud := baud, rxbuf := [], rxErr := false, resConn := true,
                 cmd := t.cmd, openAnswers := rest, trace := s.trace ++ [.doneConnect true] }) ∧
      (s.openAnswers = false :: rest → t =
        { s with chOpen := false, rxbuf := [], rxErr := false, resConn := false,
                 cmd := t.cmd, openAnswers := rest, trace := s.trace ++ [.doneConnect false] }) ∧
      (s.openAnswers = [] → ∃ r : Bool, t =
        { s with chOpen := r, cfgDev := if r then dev else s.cfgDev, cfgBaud := if r then baud else s.cfgBaud,
                 rxbuf := [], rxErr := false, resConn := r, cmd := t.cmd, draws := s.draws + 1,
                 trace := s.trace ++ [.doneConnect r] }) ∧
      (∀ ok : Bool, s.openAnswers = ok :: ok :: rest → ∃ u, exec (.connect dev baud) t = .next u ∧
        u = { t with openAnswers := rest, trace := t.trace ++ [.doneConnect ok], cmd := u.cmd })

/-- R123: READ acceptance, as a command and as T2. What becomes of the word at the interface is CommandInterface's to
say. -/
def Obligations.ReadAcceptance : Prop :=
  ∀ (addr : AddrIn) (x : Word) (s : State), s.teState = .idle →
    ∀ i : Instr, (i = .read addr x ∨ i = .t2 ∧ s.cmd = some (.word (commandWord 0b01 addr x))) →
      ∃ t, exec i s = .next t ∧
      (s.chOpen = true → t =
        { s with reqOp := 0x01, reqAddr := addr.extractLsb' 0 32, reqData := 0x00000000, attempt := 1,
                 teState := .prep, cmd := t.cmd }) ∧
      (s.chOpen = false → t =
        { s with resStatus := 0x10, trace := s.trace ++ [.doneRead 0x10 s.rdata], cmd := t.cmd })

/-- R124: WRITE acceptance, as a command and as T3. -/
def Obligations.WriteAcceptance : Prop :=
  ∀ (addr : AddrIn) (data : Word) (s : State), s.teState = .idle →
    ∀ i : Instr, (i = .write addr data ∨ i = .t3 ∧ s.cmd = some (.word (commandWord 0b10 addr data))) →
      ∃ t, exec i s = .next t ∧
      (s.chOpen = true → t =
        { s with reqOp := 0x02, reqAddr := addr.extractLsb' 0 32, reqData := data, attempt := 1,
                 teState := .prep, cmd := t.cmd }) ∧
      (s.chOpen = false → t =
        { s with resStatus := 0x10, trace := s.trace ++ [.doneWrite 0x10], cmd := t.cmd })

/-- The command interface (R121) as the model keeps it: an accepted word leaves it, a presented word takes the place of
what stands there, and a reset event leaves it and all the environment holds. That is the model's reading
(notes/assumptions/10); the spec gives the interface no state. -/
def Obligations.CommandInterface : Prop :=
  (∀ (c : Command) (i : Instr) (s : State), s.teState = .idle → s.cmd = some c →
    ((∃ name baud, i = .t1 ∧ c = .wideConnect name baud) ∨
      ∃ w, c = .word w ∧ (i = .t1 ∧ cmdOp w = 0b11 ∨ i = .t2 ∧ cmdOp w = 0b01 ∨ i = .t3 ∧ cmdOp w = 0b10)) →
      ∃ t, exec i s = .next t ∧ t.cmd = none ∧ exec (decodeInterface c) s = .next t) ∧
  (∀ (c : Command) (rest : List Turn) (s : State), s.schedule = .present c :: rest →
    step s = .next { s with schedule := rest, cmd := some c }) ∧
  (∀ (rest : List Turn) (s : State), s.schedule = .withdraw :: rest →
    step s = .next { s with schedule := rest, cmd := none }) ∧
  (∀ s : State, ∃ t, exec .reset s = .next t ∧ t.cmd = s.cmd ∧ t.schedule = s.schedule ∧
    t.openAnswers = s.openAnswers ∧ t.sendAnswers = s.sendAnswers)

/-- R74, D38: the reserved command word is never accepted and changes no state. That the step which meets it answers the
same state, the word still at the interface, is the model's reading (notes/assumptions/12). -/
def Obligations.ReservedCommandChangesNothing : Prop :=
  (∀ (a : AddrIn) (d : Word) (s : State), exec (.cmdReserved a d) s = .next s) ∧
  (∀ (a : AddrIn) (d : Word) (s : State), s.teState = .idle → s.schedule = [] → s.cmd = some (.word (commandWord 0b00 a d)) →
    step s = .next s)

/-- R121: a command is refused while BUSY = 1, and step leaves a command that is presented then at the interface. -/
def Obligations.BusyEngineAcceptsNoCommand : Prop :=
  (∀ (a : AddrIn) (x d : Word) (dev : DevId) (s : State), s.teState ≠ .idle →
    exec (.read a x) s = .refused .commandWhileBusy ∧ exec (.write a d) s = .refused .commandWhileBusy ∧
    exec (.connect dev d) s = .refused .commandWhileBusy ∧
    exec .t1 s = .refused (.stepNotEnabled "T1") ∧ exec .t2 s = .refused (.stepNotEnabled "T2") ∧
    exec .t3 s = .refused (.stepNotEnabled "T3")) ∧
  (∀ s t : State, s.teState ≠ .idle → engineTurn s → step s = .next t → t.cmd = s.cmd)

/-- R55: what stands at the command interface has no influence on a transaction in progress. -/
def Obligations.CommandInterfaceCannotDisturbATransaction : Prop :=
  ∀ (s t : State) (w : Option Command), s.teState ≠ .idle → engineTurn s → step s = .next t →
    step { s with cmd := w } = .next { t with cmd := w }

/-! ## The engine's steps -/

/-- R125: in PREP, T4 flushes and loads the frame of the latched request; TXBUF above the frame keeps its bytes. That a request
frame (R62, R63) runs as an instruction in PREP, loading the frame of its own operands with its CRC field unused, is the
model's choice (notes/assumptions/9). -/
def Obligations.FlushAndEncode : Prop :=
  ∀ s : State, s.teState = .prep → ∀ (i : Instr) (a d : Word),
    ((∃ c, i = .reqRead a c) ∨ i = .t4 ∧ s.reqOp = 0x01 ∧ a = s.reqAddr →
      ∃ t, exec i s = .next t ∧
        t = { s with rxbuf := [], rxErr := false, trace := s.trace ++ [.flush], txlen := 8, explen := 9, txidx := 0,
                     rxidx := 0, teState := .tx, txbuf := t.txbuf } ∧
        (∀ (k : Nat) (_ : k < 12), t.txbuf[k] = if k < 8 then (encRead a).getD k 0 else s.txbuf[k])) ∧
    ((∃ c, i = .reqWrite a d c) ∨ i = .t4 ∧ s.reqOp = 0x02 ∧ a = s.reqAddr ∧ d = s.reqData →
      ∃ t, exec i s = .next t ∧
        t = { s with rxbuf := [], rxErr := false, trace := s.trace ++ [.flush], txlen := 12, explen := 5, txidx := 0,
                     rxidx := 0, teState := .tx, txbuf := t.txbuf } ∧
        (∀ (k : Nat) (_ : k < 12), t.txbuf[k] = (encWrite a d).getD k 0))

/-- R126: T5, whether State lists the line's answer or it is a free value. -/
def Obligations.SendOneByte : Prop :=
  ∀ (s : State) (_ : s.txidx.toNat < 12), s.teState = .tx → sendResult s = true →
    (s.txidx.toNat + 1 = s.txlen.toNat → exec .t5 s = .next
      { s with trace := s.trace ++ [.tx s.txbuf[s.txidx.toNat]], timer := s.params.respTicks, teState := .await,
               sendAnswers := s.sendAnswers.tail, draws := if s.sendAnswers = [] then s.draws + 1 else s.draws }) ∧
    (s.txidx.toNat + 1 ≠ s.txlen.toNat → exec .t5 s = .next
      { s with trace := s.trace ++ [.tx s.txbuf[s.txidx.toNat]], txidx := s.txidx + 1,
               sendAnswers := s.sendAnswers.tail, draws := if s.sendAnswers = [] then s.draws + 1 else s.draws })

/-- R127: T6 ends the transaction with E_TX_FAIL, whatever the attempt; nothing is sent and CH_OPEN stays as it is. -/
def Obligations.SendFailureIsNeverRetried : Prop :=
  ∀ s : State, s.txidx.toNat < 12 → s.teState = .tx → s.chOpen = true → sendResult s = false →
    (s.reqOp = 0x01 → exec .t6 s = .next
      { s with resStatus := 0x11, teState := .idle, trace := s.trace ++ [.doneRead 0x11 s.rdata],
               sendAnswers := s.sendAnswers.tail, draws := if s.sendAnswers = [] then s.draws + 1 else s.draws }) ∧
    (s.reqOp = 0x02 → exec .t6 s = .next
      { s with resStatus := 0x11, teState := .idle, trace := s.trace ++ [.doneWrite 0x11],
               sendAnswers := s.sendAnswers.tail, draws := if s.sendAnswers = [] then s.draws + 1 else s.draws })

/-- R128: T7 takes the head of RXBUF whatever its value and does not restart the timer. -/
def Obligations.CollectOneByte : Prop :=
  ∀ (b : Byte) (rest : List Byte) (s : State) (h : s.rxidx.toNat < 9), s.teState = .await → s.rxErr = false →
    s.rxbuf = b :: rest →
    (s.rxidx.toNat + 1 = s.explen.toNat → exec .t7 s = .next
      { s with rxbuf := rest, rxfrm := s.rxfrm.set s.rxidx.toNat b h, rxidx := s.explen, teState := .decode }) ∧
    (s.rxidx.toNat + 1 ≠ s.explen.toNat → exec .t7 s = .next
      { s with rxbuf := rest, rxfrm := s.rxfrm.set s.rxidx.toNat b h, rxidx := s.rxidx + 1 })

/-- R129, R130, with R133: a receive error and a timeout each fail the attempt: the next attempt, or E_NO_RESPONSE at the
limit. A receive error has priority: T7 and T9 are not enabled. -/
def Obligations.FailedWaitRetriesUpToTheLimit : Prop :=
  ∀ s : State, s.teState = .await →
    (s.rxErr = true → exec .t7 s = .refused (.stepNotEnabled "T7") ∧ exec .t9 s = .refused (.stepNotEnabled "T9")) ∧
    ∀ i : Instr, (i = .t8 ∧ s.rxErr = true ∨ i = .t9 ∧ s.rxErr = false ∧ s.rxbuf = [] ∧ s.timer = 0) →
      (s.attempt ≠ s.params.maxAttempts → s.reqOp = 0x01 ∨ s.reqOp = 0x02 →
        exec i s = .next { s with attempt := s.attempt + 1, teState := .prep }) ∧
      (s.attempt = s.params.maxAttempts → s.reqOp = 0x01 → exec i s = .next
        { s with resStatus := 0x12, teState := .idle, trace := s.trace ++ [.doneRead 0x12 s.rdata] }) ∧
      (s.attempt = s.params.maxAttempts → s.reqOp = 0x02 → exec i s = .next
        { s with resStatus := 0x12, teState := .idle, trace := s.trace ++ [.doneWrite 0x12] })

/-- R131: T10 returns the decoded status verbatim, and for READ the data, whatever the status and the attempt. -/
def Obligations.DecodedResponseCompletes : Prop :=
  ∀ (s : State) (st : Byte) (v : Word), s.teState = .decode →
    (s.reqOp = 0x01 → dec .read (s.rxfrm.toList.take s.explen.toNat) = .okRead st v → exec .t10 s = .next
      { s with resStatus := st, rdata := v, teState := .idle, trace := s.trace ++ [.doneRead st v] }) ∧
    (s.reqOp = 0x02 → dec .write (s.rxfrm.toList.take s.explen.toNat) = .okWrite st → exec .t10 s = .next
      { s with resStatus := st, teState := .idle, trace := s.trace ++ [.doneWrite st] })

/-- T11 (R132) fails the attempt alike for all five kinds, as R133 has it; the status inside a bad frame is never reported.
That RES_STATUS is written with 0x12 at the limit, although R132 says that this step does not write it, is the model's
reading of the two rules (notes/assumptions/14). -/
def Obligations.DecodeErrorRetriesUpToTheLimit : Prop :=
  ∀ (s : State) (k : DecodeError), s.teState = .decode →
    (s.reqOp = 0x01 → dec .read (s.rxfrm.toList.take s.explen.toNat) = .err k →
      (s.attempt ≠ s.params.maxAttempts → exec .t11 s = .next { s with attempt := s.attempt + 1, teState := .prep }) ∧
      (s.attempt = s.params.maxAttempts → exec .t11 s = .next
        { s with resStatus := 0x12, teState := .idle, trace := s.trace ++ [.doneRead 0x12 s.rdata] })) ∧
    (s.reqOp = 0x02 → dec .write (s.rxfrm.toList.take s.explen.toNat) = .err k →
      (s.attempt ≠ s.params.maxAttempts → exec .t11 s = .next { s with attempt := s.attempt + 1, teState := .prep }) ∧
      (s.attempt = s.params.maxAttempts → exec .t11 s = .next
        { s with resStatus := 0x12, teState := .idle, trace := s.trace ++ [.doneWrite 0x12] }))

/-- R64, R65, R98, R99: a well-formed response frame of the outstanding opcode completes its command; with a wrong CRC
field, or for the other opcode, it costs the attempt (R132, R133): the next attempt, or E_NO_RESPONSE at the limit, RDATA
unchanged. That a frame's row runs in DECODE is the model's choice (notes/assumptions/9), and that RES_STATUS is written
with 0x12 at the limit its reading (notes/assumptions/14). -/
def Obligations.ResponseFramesComplete : Prop :=
  ∀ (st : BitVec 2) (v : Word) (c : Byte) (s : State), s.teState = .decode →
    (s.reqOp = 0x01 → (Instr.rspRead st v c).wf = true → exec (.rspRead st v c) s = .next
      { s with resStatus := st.setWidth 8, rdata := v, teState := .idle,
               trace := s.trace ++ [.doneRead (st.setWidth 8) v] }) ∧
    (s.reqOp = 0x02 → (Instr.rspWrite st c).wf = true → exec (.rspWrite st c) s = .next
      { s with resStatus := st.setWidth 8, teState := .idle, trace := s.trace ++ [.doneWrite (st.setWidth 8)] }) ∧
    (s.attempt ≠ s.params.maxAttempts →
      (s.reqOp = 0x02 ∨ s.reqOp = 0x01 ∧ (Instr.rspRead st v c).wf = false → exec (.rspRead st v c) s = .next
        { s with attempt := s.attempt + 1, teState := .prep }) ∧
      (s.reqOp = 0x01 ∨ s.reqOp = 0x02 ∧ (Instr.rspWrite st c).wf = false → exec (.rspWrite st c) s = .next
        { s with attempt := s.attempt + 1, teState := .prep })) ∧
    (s.attempt = s.params.maxAttempts →
      ∀ i : Instr, (i = .rspRead st v c ∨ i = .rspWrite st c) →
        (s.reqOp = 0x01 → (i = .rspRead st v c → i.wf = false) → exec i s = .next
          { s with resStatus := 0x12, teState := .idle, trace := s.trace ++ [.doneRead 0x12 s.rdata] }) ∧
        (s.reqOp = 0x02 → (i = .rspWrite st c → i.wf = false) → exec i s = .next
          { s with resStatus := 0x12, teState := .idle, trace := s.trace ++ [.doneWrite 0x12] }))

/-- R210: the reset event in any state, alone and as a turn: the stated values, every other register whatever was drawn;
nothing is emitted. -/
def Obligations.ResetEventClosesTheChannel : Prop :=
  (∀ (rest : List Turn) (s : State), s.schedule = .reset :: rest → step s = exec .reset { s with schedule := rest }) ∧
  ∀ s : State, ∃ t, exec .reset s = .next t ∧
    t.chOpen = false ∧ t.rxbuf = [] ∧ t.rxErr = false ∧ t.teState = .idle ∧ t.busy = false ∧
    t.trace = s.trace ∧ t.params = s.params

/-- R211: the state after power-on. The other registers' values there are the model's choice (notes/assumptions/1). -/
def Obligations.StateAfterPowerOn : Prop :=
  State.reset.chOpen = false ∧ State.reset.rxbuf = [] ∧ State.reset.rxErr = false ∧ State.reset.teState = .idle ∧
    State.reset.busy = false

/-- The guards of R122 to R132: an engine step whose guard does not hold does not happen (T1 to T3 need an IDLE engine and
their own command at the interface: nothing, another command and the reserved word do not enable them), and a frame is
built only in PREP and judged only in DECODE. An index past its buffer (R18, R19), which no state of the invariant holds, stops by name
(notes/assumptions/8). -/
def Obligations.StepsOutsideTheirGuardsStop : Prop :=
  ∀ (a d : Word) (st : BitVec 2) (c : Byte) (s : State),
    (s.teState ≠ .idle ∨ s.cmd = none ∨ (∃ w, s.cmd = some (.word w) ∧ cmdOp w ≠ 0b11) →
      exec .t1 s = .refused (.stepNotEnabled "T1")) ∧
    (s.teState ≠ .idle ∨ s.cmd = none ∨ (∃ w, s.cmd = some (.word w) ∧ cmdOp w ≠ 0b01) ∨
        (∃ name baud, s.cmd = some (.wideConnect name baud)) →
      exec .t2 s = .refused (.stepNotEnabled "T2")) ∧
    (s.teState ≠ .idle ∨ s.cmd = none ∨ (∃ w, s.cmd = some (.word w) ∧ cmdOp w ≠ 0b10) ∨
        (∃ name baud, s.cmd = some (.wideConnect name baud)) →
      exec .t3 s = .refused (.stepNotEnabled "T3")) ∧
    (s.teState ≠ .prep → exec .t4 s = .refused (.stepNotEnabled "T4") ∧
      exec (.reqRead a c) s = .refused (.stepNotEnabled "REQ.READ") ∧
      exec (.reqWrite a d c) s = .refused (.stepNotEnabled "REQ.WRITE")) ∧
    (s.teState ≠ .tx ∨ sendResult s = false → exec .t5 s = .refused (.stepNotEnabled "T5")) ∧
    (s.teState ≠ .tx ∨ sendResult s = true → exec .t6 s = .refused (.stepNotEnabled "T6")) ∧
    (s.teState ≠ .await ∨ s.rxErr = true ∨ s.rxbuf = [] → exec .t7 s = .refused (.stepNotEnabled "T7")) ∧
    (s.teState ≠ .await ∨ s.rxErr = false → exec .t8 s = .refused (.stepNotEnabled "T8")) ∧
    (s.teState ≠ .await ∨ s.rxErr = true ∨ s.rxbuf ≠ [] ∨ 0 < s.timer →
      exec .t9 s = .refused (.stepNotEnabled "T9")) ∧
    (s.teState ≠ .decode → exec .t10 s = .refused (.stepNotEnabled "T10") ∧
      exec .t11 s = .refused (.stepNotEnabled "T11") ∧
      exec (.rspRead st d c) s = .refused (.stepNotEnabled "RSP.READ") ∧
      exec (.rspWrite st c) s = .refused (.stepNotEnabled "RSP.WRITE")) ∧
    (∀ op, s.teState = .decode → opOfTag s.reqOp = some op →
      (decodedOk (dec op (s.rxfrm.toList.take s.explen.toNat)) = false →
        exec .t10 s = .refused (.stepNotEnabled "T10")) ∧
      (decodedOk (dec op (s.rxfrm.toList.take s.explen.toNat)) = true →
        exec .t11 s = .refused (.stepNotEnabled "T11"))) ∧
    (s.teState = .tx → 12 ≤ s.txidx.toNat →
      (sendResult s = true → exec .t5 s = .fault .noSuchBufferByte) ∧
      (sendResult s = false → exec .t6 s = .fault .noSuchBufferByte)) ∧
    (s.teState = .await → s.rxErr = false → s.rxbuf ≠ [] → 9 ≤ s.rxidx.toNat →
      exec .t7 s = .fault .noSuchBufferByte)

/-! ## The step -/

/-- The step runs the decoded instruction: the command at the interface of an IDLE engine, the request frame in PREP, the
collected response frame in DECODE (there with the invariant, which ties EXPLEN to a response's length). Where a turn
was scheduled, it is used up. The block fetches nothing (R14): that the frame of PREP and of DECODE is the instruction
that runs next is the model's choice (notes/assumptions/9). -/
def Obligations.StepRunsTheDecodedInstruction : Prop :=
  ∀ s : State, engineTurn s →
    (∀ (c : Command) (i : Instr), s.teState = .idle → s.cmd = some c → decode (.command c) = .ok i →
      step s = exec i { s with schedule := s.schedule.tail }) ∧
    (∀ i : Instr, s.teState = .prep → s.reqOp = 0x01 → decode (.frame (encRead s.reqAddr)) = .ok i →
      step s = exec i { s with schedule := s.schedule.tail }) ∧
    (∀ i : Instr, s.teState = .prep → s.reqOp = 0x02 → decode (.frame (encWrite s.reqAddr s.reqData)) = .ok i →
      step s = exec i { s with schedule := s.schedule.tail }) ∧
    (∀ i : Instr, Inv s → s.teState = .decode →
      decode (.frame (s.rxfrm.toList.take s.explen.toNat)) = .ok i →
        step s = exec i { s with schedule := s.schedule.tail })

/-- R139: every row of the transition relation, from every state that meets the invariant; the engine waits exactly where
the table has no step. That T11 at the limit writes RES_STATUS with 0x12, which R139 gives as Done(0x12) and R132 says this
step does not write, is the model's reading (notes/assumptions/14); so is that the turn of a waiting engine is a step that
changes nothing but the turn (notes/assumptions/16). -/
def Obligations.TransitionTable : Prop :=
  ∀ s : State, Inv s → engineTurn s → ∃ t, step s = .next t ∧
    (s.teState = .idle → s.cmd = none → t = { s with schedule := s.schedule.tail }) ∧
    (∀ c, s.teState = .idle → s.cmd = some c → (∃ dev baud, decode (.command c) = .ok (.connect dev baud)) →
      t.teState = .idle) ∧
    (∀ w, s.teState = .idle → s.cmd = some (.word w) → cmdOp w = 0b01 ∨ cmdOp w = 0b10 →
      (s.chOpen = false → t.teState = .idle ∧ t.resStatus = 0x10) ∧ (s.chOpen = true → t.teState = .prep)) ∧
    (s.teState = .prep → t.teState = .tx) ∧
    (s.teState = .tx →
      (sendResult s = true → s.txidx.toNat + 1 < s.txlen.toNat → t.teState = .tx) ∧
      (sendResult s = true → s.txidx.toNat + 1 = s.txlen.toNat → t.teState = .await) ∧
      (sendResult s = false → t.teState = .idle ∧ t.resStatus = 0x11)) ∧
    (s.teState = .await →
      (s.rxErr = true → s.attempt < s.params.maxAttempts → t.teState = .prep) ∧
      (s.rxErr = true → s.attempt = s.params.maxAttempts → t.teState = .idle ∧ t.resStatus = 0x12) ∧
      (s.rxErr = false → s.rxbuf ≠ [] → s.rxidx.toNat + 1 < s.explen.toNat → t.teState = .await) ∧
      (s.rxErr = false → s.rxbuf ≠ [] → s.rxidx.toNat + 1 = s.explen.toNat → t.teState = .decode) ∧
      (s.rxErr = false → s.rxbuf = [] → s.timer = 0 → s.attempt < s.params.maxAttempts → t.teState = .prep) ∧
      (s.rxErr = false → s.rxbuf = [] → s.timer = 0 → s.attempt = s.params.maxAttempts →
        t.teState = .idle ∧ t.resStatus = 0x12) ∧
      (s.rxErr = false → s.rxbuf = [] → 0 < s.timer → t = { s with schedule := s.schedule.tail })) ∧
    (s.teState = .decode → ∀ op, opOfTag s.reqOp = some op →
      (decodedOk (dec op (s.rxfrm.toList.take s.explen.toNat)) = true → t.teState = .idle ∧ t.resStatus ≤ 0x03) ∧
      (decodedOk (dec op (s.rxfrm.toList.take s.explen.toNat)) = false →
        (s.attempt < s.params.maxAttempts → t.teState = .prep) ∧
        (s.attempt = s.params.maxAttempts → t.teState = .idle ∧ t.resStatus = 0x12)))

/-- A step that meets a state of the invariant always answers a next state: no fault and no refusal (R140). That
the turn of a waiting engine is such a step is the model's reading (notes/assumptions/16). -/
def Obligations.StepNeverStops : Prop :=
  ∀ s : State, Inv s → ∃ t, step s = .next t

/-! ## Invariants and rules of the whole machine -/

/-- The state after power-on meets the invariant of R29. -/
def Obligations.PowerOnMeetsTheInvariant : Prop := Inv State.reset

/-- Every step, the engine's or the environment's, keeps the invariant of R29. -/
def Obligations.EveryStepKeepsTheInvariant : Prop :=
  ∀ s t : State, Inv s → step s = .next t → Inv t

/-- R12, R181: a step that changes RES_STATUS, other than a reset event, completes a READ or WRITE with one of the seven
codes and goes to IDLE. -/
def Obligations.StatusIsOneOfSevenCodes : Prop :=
  ∀ s t : State, step s = .next t → ¬ resetTurn s → t.resStatus ≠ s.resStatus →
    legalStatus t.resStatus ∧ t.teState = .idle ∧
      (t.trace = s.trace ++ [.doneRead t.resStatus t.rdata] ∨ t.trace = s.trace ++ [.doneWrite t.resStatus])

/-- R12: RDATA is written only by the decode of a READ response; a transport error or a WRITE leaves it as it was. -/
def Obligations.ReadDataOnlyFromADecodedResponse : Prop :=
  ∀ s t : State, step s = .next t → ¬ resetTurn s → t.rdata ≠ s.rdata →
    s.teState = .decode ∧ s.reqOp = 0x01 ∧
      ∃ st, dec .read (s.rxfrm.toList.take s.explen.toNat) = .okRead st t.rdata ∧ t.resStatus = st

/-- R188: with a legal status, bits 7 to 2 are zero exactly for a decoded response, and 0x10 up is a transport code. -/
def Obligations.TransportCodesAreDisjoint : Prop :=
  (∀ (op : Opcode) (bytes : List Byte) (st : Byte),
    (dec op bytes = .okWrite st ∨ ∃ v, dec op bytes = .okRead st v) → st.extractLsb' 2 6 = 0 ∧ st ≤ 0x03) ∧
  (∀ st : Byte, legalStatus st → ((st.extractLsb' 2 6 = 0 ↔ st ≤ 0x03) ∧
    (0x10 ≤ st ↔ st = 0x10 ∨ st = 0x11 ∨ st = 0x12) ∧ (st.extractLsb' 2 6 = 0 ↔ ¬ 0x10 ≤ st)))

/-- R11: the request registers change only at a reset event and at an acceptance, that is, from IDLE into PREP. -/
def Obligations.RequestIsImmutable : Prop :=
  ∀ s t : State, step s = .next t → ¬ resetTurn s →
    (t.reqOp ≠ s.reqOp ∨ t.reqAddr ≠ s.reqAddr ∨ t.reqData ≠ s.reqData) →
      s.teState = .idle ∧ t.teState = .prep ∧ t.attempt = 1

/-- R20: CH_OPEN and the configuration change only at a reset event and by a CONNECT, that is, in IDLE with its Done. -/
def Obligations.ChannelChangesOnlyByConnect : Prop :=
  ∀ s t : State, step s = .next t → ¬ resetTurn s →
    (t.chOpen ≠ s.chOpen ∨ t.cfgDev ≠ s.cfgDev ∨ t.cfgBaud ≠ s.cfgBaud ∨ t.resConn ≠ s.resConn) →
      s.teState = .idle ∧ t.teState = .idle ∧ t.trace = s.trace ++ [.doneConnect t.chOpen] ∧ t.resConn = t.chOpen

/-- R140, R50: what a step puts on the line is the next byte of the latched request's frame, sent in TX; a step emits at
most one event and takes none back. -/
def Obligations.OnlyRequestBytesAreSent : Prop :=
  ∀ s t : State, Inv s → step s = .next t → t.trace = s.trace ∨ ∃ e, t.trace = s.trace ++ [e] ∧
    (∀ b, e = .tx b → s.teState = .tx ∧ ∃ op, opOfTag s.reqOp = some op ∧
      (enc op s.reqAddr s.reqData)[s.txidx.toNat]? = some b) ∧
    (e = .flush → s.teState = .prep)

/-- R16, R25: no step writes a build parameter, and ATTEMPT changes only at an acceptance, a retry or a reset event. -/
def Obligations.AttemptsAreCounted : Prop :=
  ∀ s t : State, step s = .next t →
    t.params = s.params ∧
    (¬ resetTurn s → t.attempt ≠ s.attempt → t.teState = .prep ∧
      (s.teState = .idle ∧ t.attempt = 1 ∨
        (s.teState = .await ∨ s.teState = .decode) ∧ t.attempt = s.attempt + 1 ∧ s.attempt ≠ s.params.maxAttempts))

/-- R138: a transaction ends. Every engine step that is not a wait, and every tick that counts, brings the Done event
nearer, and no event of the environment but a reset moves it away. -/
def Obligations.EveryStepMakesProgress : Prop :=
  ∀ s t : State, Inv s → s.teState ≠ .idle → step s = .next t →
    (engineTurn s → enabledStep s ≠ none → workLeft t < workLeft s) ∧
    (∀ rest, s.schedule = .tick :: rest → s.teState = .await → 0 < s.timer → workLeft t < workLeft s) ∧
    workLeft t ≤ workLeft s ∧ 0 < workLeft s

/-! ## Whole transactions -/

/-- R235, R138: on a silent line with every send answered ok, a transaction sends the whole frame once for each attempt
that is left and ends with 0x12, in the steps and ticks that R235 counts; RDATA keeps its value. -/
def Obligations.SilentLineExhaustsTheAttempts : Prop :=
  ∀ (op : Opcode) (m : Nat) (rest : List Bool) (later : List Turn) (s : State),
    s.params.valid → s.teState = .prep → opOfTag s.reqOp = some op → s.chOpen = true → 1 ≤ s.attempt →
    m + s.attempt = s.params.maxAttempts + 1 → 1 ≤ m →
    s.sendAnswers = List.replicate (m * txlenOf op) true ++ rest →
    s.schedule = silentAttempts op s.params.respTicks m ++ later →
    ∃ t, runSteps (m * (txlenOf op + 2 + s.params.respTicks)) s = .next t ∧
      t.teState = .idle ∧ t.resStatus = 0x12 ∧ t.rdata = s.rdata ∧ t.attempt = s.params.maxAttempts ∧
      t.chOpen = true ∧ t.sendAnswers = rest ∧ t.schedule = later ∧
      t.trace = s.trace ++ framesEvents (enc op s.reqAddr s.reqData) m ++
        [match op with | .read => .doneRead 0x12 s.rdata | .write => .doneWrite 0x12]

/-- R135: a READ whose request is answered in the first attempt by a well-formed response, from the command word to Done:
one request frame, the response's status and data. That the word has left the interface is the model's reading
(notes/assumptions/10). -/
def Obligations.ReadReturnsTheAnsweredData : Prop :=
  ∀ (addr : AddrIn) (x : Word) (st : BitVec 2) (v : Word) (rest : List Bool) (later : List Turn) (s : State),
    s.params.valid → s.teState = .idle → s.chOpen = true → s.cmd = some (.word (commandWord 0b01 addr x)) →
    s.sendAnswers = List.replicate 8 true ++ rest →
    s.schedule = .engine :: answeredAttempt .read (rspEncRead (st.setWidth 8) v) ++ later →
    ∃ t, runSteps 29 s = .next t ∧ t.teState = .idle ∧ t.resStatus = st.setWidth 8 ∧ t.rdata = v ∧
      t.rxbuf = [] ∧ t.cmd = none ∧ t.sendAnswers = rest ∧ t.schedule = later ∧
      t.trace = s.trace ++ frameEvents (encRead (addr.extractLsb' 0 32)) ++ [.doneRead (st.setWidth 8) v]

/-- R136: the same for a WRITE; RDATA keeps its value. That the word has left the interface is the model's reading
(notes/assumptions/10). -/
def Obligations.WriteReturnsTheAnsweredStatus : Prop :=
  ∀ (addr : AddrIn) (data : Word) (st : BitVec 2) (rest : List Bool) (later : List Turn) (s : State),
    s.params.valid → s.teState = .idle → s.chOpen = true → s.cmd = some (.word (commandWord 0b10 addr data)) →
    s.sendAnswers = List.replicate 12 true ++ rest →
    s.schedule = .engine :: answeredAttempt .write (rspEncWrite (st.setWidth 8)) ++ later →
    ∃ t, runSteps 25 s = .next t ∧ t.teState = .idle ∧ t.resStatus = st.setWidth 8 ∧ t.rdata = s.rdata ∧
      t.rxbuf = [] ∧ t.cmd = none ∧ t.sendAnswers = rest ∧ t.schedule = later ∧
      t.trace = s.trace ++ frameEvents (encWrite (addr.extractLsb' 0 32) data) ++ [.doneWrite (st.setWidth 8)]
end

