-- ==== Sys2Proof/Laws/Codec.lean ====
section
/-! SUPPORT. Lemmas of the codec's definitions: byte order, frame lengths and shapes, CRC8 one byte at a time, tags, and the one
inversion lemma of DEC. -/

namespace Sys2Proof.Machine

theorem extract_append_low {m n k : Nat} (x : BitVec m) (y : BitVec n) (start : Nat) (h : start + k ≤ n) :
    (x ++ y).extractLsb' start k = y.extractLsb' start k := by
  apply BitVec.eq_of_getLsbD_eq
  intro i hi
  have : start + i < n := by omega
  simp [BitVec.getLsbD_append, hi, this]

theorem extract_append_high {m n k : Nat} (x : BitVec m) (y : BitVec n) (start : Nat) (h : n ≤ start) :
    (x ++ y).extractLsb' start k = x.extractLsb' (start - n) k := by
  apply BitVec.eq_of_getLsbD_eq
  intro i hi
  have h1 : ¬ start + i < n := by omega
  have h2 : start + i - n = start - n + i := by omega
  simp [BitVec.getLsbD_append, hi, h1, h2]

theorem extract_all {n : Nat} (x : BitVec n) : x.extractLsb' 0 n = x := by
  apply BitVec.eq_of_getLsbD_eq
  intro i hi
  simp [hi]

/-- be32 after joinBytes gives the bytes back (R104). -/
theorem be32_joinBytes (b0 b1 b2 b3 : Byte) : be32 (joinBytes b0 b1 b2 b3) = [b0, b1, b2, b3] := by
  simp only [be32, joinBytes]
  rw [extract_append_high _ _ 24 (by omega), extract_append_high _ _ (24 - 8) (by omega),
    extract_append_high _ _ (24 - 8 - 8) (by omega), extract_append_high _ _ 16 (by omega),
    extract_append_high _ _ (16 - 8) (by omega), extract_append_low _ _ (16 - 8 - 8) (by omega),
    extract_append_high _ _ 8 (by omega), extract_append_low _ _ (8 - 8) (by omega),
    extract_append_low _ _ 0 (by omega)]
  simp only [Nat.sub_self, extract_all]

/-- joinBytes after be32 gives the word back (R104). -/
theorem joinBytes_be32 (v : Word) :
    joinBytes (v.extractLsb' 24 8) (v.extractLsb' 16 8) (v.extractLsb' 8 8) (v.extractLsb' 0 8) = v := by
  apply BitVec.eq_of_getLsbD_eq
  intro i hi
  have h1 : ¬ i < 8 → 8 + (i - 8) = i := by omega
  have h2 : ¬ i - 8 < 8 → 16 + (i - 8 - 8) = i := by omega
  have h3 : ¬ i - 8 - 8 < 8 → 24 + (i - 8 - 8 - 8) = i ∧ i - 8 - 8 - 8 < 8 := by omega
  simp only [joinBytes, BitVec.getLsbD_append, BitVec.getLsbD_extractLsb', Nat.zero_add]
  split
  · rename_i c; simp [c]
  · rename_i c1
    split
    · rename_i c; simp [c, h1 c1]
    · rename_i c2
      split
      · rename_i c; simp [c, h2 c2]
      · rename_i c3; simp [h3 c3]

@[simp] theorem be32_length (v : Word) : (be32 v).length = 4 := rfl

@[simp] theorem opOfTag_opTag (op : Opcode) : opOfTag (opTag op) = some op := by
  cases op <;> rfl

/-- A tag that names an operation is that operation's tag (R71). -/
theorem eq_opTag_of_opOfTag {t : Byte} {op : Opcode} (h : opOfTag t = some op) : t = opTag op := by
  unfold opOfTag at h
  split at h
  · cases h; assumption
  · split at h
    · cases h; assumption
    · cases h

@[simp] theorem statusLegal_statusByte (st : BitVec 2) : statusLegal (statusByte st) = true := by
  revert st; decide

@[simp] theorem statusCode_statusByte (st : BitVec 2) : statusCode (statusByte st) = st := by
  revert st; decide

/-- A STATUS byte with no reserved bit set is the zero-extension of its code (R68). -/
theorem statusByte_statusCode {st : Byte} (h : statusLegal st = true) : statusByte (statusCode st) = st := by
  have h6 : st.extractLsb' 2 6 = 0 := by simpa [statusLegal] using h
  apply BitVec.eq_of_getLsbD_eq
  intro i hi
  by_cases h2 : i < 2
  · simp [statusByte, statusCode, hi, h2]
  · have := congrArg (fun v => v.getLsbD (i - 2)) h6
    have e : 2 + (i - 2) = i := by omega
    have l : i - 2 < 6 := by omega
    simp only [BitVec.getLsbD_extractLsb', e, l, decide_true, Bool.true_and] at this
    rw [this]
    simp [statusByte, statusCode, h2]

@[simp] theorem crc8_nil : crc8 [] = 0 := rfl

/-- CRC8 takes the bytes in order (R91). -/
theorem crc8_append_byte (s : List Byte) (b : Byte) : crc8 (s ++ [b]) = crcByte (crc8 s) b := by
  simp [crc8]

@[simp] theorem sealFrame_length (p : List Byte) : (sealFrame p).length = p.length + 2 := by
  simp [sealFrame]

/-- ENC's length is TXLENOF (R95). -/
@[simp] theorem enc_length (op : Opcode) (a d : Word) : (enc op a d).length = txlenOf op := by
  cases op <;> rfl

@[simp] theorem rspEncRead_length (st : Byte) (v : Word) : (rspEncRead st v).length = explenOf .read := rfl
@[simp] theorem rspEncWrite_length (st : Byte) : (rspEncWrite st).length = explenOf .write := rfl

/-- Everything an Ok of DEC says: each check of R96 passed, and the values are those of step 7. -/
theorem dec_ok {op : Opcode} {s : List Byte} (h : decodedOk (dec op s) = true) :
    explenOf op ≤ s.length ∧ byteAt s (explenOf op - 1) = Config.eof ∧
      byteAt s (explenOf op - 2) = crc8 (s.take (explenOf op - 2)) ∧ byteAt s 0 = Config.sof ∧
      byteAt s 1 = opTag op ∧ statusLegal (byteAt s 2) = true ∧ dec op s = decValues op s := by
  unfold dec at h ⊢
  split at h
  · cases h
  split at h
  · cases h
  split at h
  · cases h
  split at h
  · cases h
  split at h
  · cases h
  split at h
  · cases h
  rename_i h1 h2 h3 h4 h5 h6
  simp only [ne_eq, Decidable.not_not] at h2 h3 h4 h5
  simp only [Bool.not_eq_false] at h6
  refine ⟨by omega, h2, h3, h4, h5, h6, ?_⟩
  simp [h1, h2, h3, h4, h5, h6]

/-- A decoded status is an AXI code: its reserved bits are zero (R68, R188). -/
theorem dec_status_legal {op : Opcode} {bytes : List Byte} {st : Byte}
    (h : dec op bytes = .okWrite st ∨ ∃ v, dec op bytes = .okRead st v) : st.extractLsb' 2 6 = 0 ∧ st ≤ 3 := by
  have hok : decodedOk (dec op bytes) = true := by rcases h with h | ⟨v, h⟩ <;> simp [h, decodedOk]
  obtain ⟨_, _, _, _, _, hs, hv⟩ := dec_ok hok
  have hst : st = byteAt bytes 2 := by
    rw [hv] at h
    unfold decValues at h
    cases op <;> simp at h <;> simp [h]
  subst hst
  generalize byteAt bytes 2 = x at hs
  revert hs
  revert x
  decide

end Sys2Proof.Machine
end

