-- ==== Sys2Proof/Laws/State.lean ====
section
/-! SUPPORT. One lemma per field for each plain update of State, so that no later proof unfolds a record update. -/

namespace Sys2Proof.Machine

/-! `emit`: one event, nothing else (R8). -/

@[simp] theorem emit_reqOp (e : Event) (s : State) : (emit e s).reqOp = s.reqOp := rfl
@[simp] theorem emit_reqAddr (e : Event) (s : State) : (emit e s).reqAddr = s.reqAddr := rfl
@[simp] theorem emit_reqData (e : Event) (s : State) : (emit e s).reqData = s.reqData := rfl
@[simp] theorem emit_resStatus (e : Event) (s : State) : (emit e s).resStatus = s.resStatus := rfl
@[simp] theorem emit_rdata (e : Event) (s : State) : (emit e s).rdata = s.rdata := rfl
@[simp] theorem emit_resConn (e : Event) (s : State) : (emit e s).resConn = s.resConn := rfl
@[simp] theorem emit_teState (e : Event) (s : State) : (emit e s).teState = s.teState := rfl
@[simp] theorem emit_txlen (e : Event) (s : State) : (emit e s).txlen = s.txlen := rfl
@[simp] theorem emit_txidx (e : Event) (s : State) : (emit e s).txidx = s.txidx := rfl
@[simp] theorem emit_explen (e : Event) (s : State) : (emit e s).explen = s.explen := rfl
@[simp] theorem emit_rxidx (e : Event) (s : State) : (emit e s).rxidx = s.rxidx := rfl
@[simp] theorem emit_attempt (e : Event) (s : State) : (emit e s).attempt = s.attempt := rfl
@[simp] theorem emit_timer (e : Event) (s : State) : (emit e s).timer = s.timer := rfl
@[simp] theorem emit_txbuf (e : Event) (s : State) : (emit e s).txbuf = s.txbuf := rfl
@[simp] theorem emit_rxfrm (e : Event) (s : State) : (emit e s).rxfrm = s.rxfrm := rfl
@[simp] theorem emit_chOpen (e : Event) (s : State) : (emit e s).chOpen = s.chOpen := rfl
@[simp] theorem emit_cfgDev (e : Event) (s : State) : (emit e s).cfgDev = s.cfgDev := rfl
@[simp] theorem emit_cfgBaud (e : Event) (s : State) : (emit e s).cfgBaud = s.cfgBaud := rfl
@[simp] theorem emit_rxbuf (e : Event) (s : State) : (emit e s).rxbuf = s.rxbuf := rfl
@[simp] theorem emit_rxErr (e : Event) (s : State) : (emit e s).rxErr = s.rxErr := rfl
@[simp] theorem emit_cmd (e : Event) (s : State) : (emit e s).cmd = s.cmd := rfl
@[simp] theorem emit_openAnswers (e : Event) (s : State) : (emit e s).openAnswers = s.openAnswers := rfl
@[simp] theorem emit_sendAnswers (e : Event) (s : State) : (emit e s).sendAnswers = s.sendAnswers := rfl
@[simp] theorem emit_schedule (e : Event) (s : State) : (emit e s).schedule = s.schedule := rfl
@[simp] theorem emit_trace (e : Event) (s : State) : (emit e s).trace = s.trace ++ [e] := rfl
@[simp] theorem emit_params (e : Event) (s : State) : (emit e s).params = s.params := rfl
@[simp] theorem emit_draws (e : Event) (s : State) : (emit e s).draws = s.draws := rfl
@[simp] theorem emit_opResult (e : Event) (s : State) : (emit e s).opResult = s.opResult := rfl

/-! `answer`: the model's own result field, nothing else (R90). -/

@[simp] theorem answer_reqOp (r : OpResult) (s : State) : (answer r s).reqOp = s.reqOp := rfl
@[simp] theorem answer_reqAddr (r : OpResult) (s : State) : (answer r s).reqAddr = s.reqAddr := rfl
@[simp] theorem answer_reqData (r : OpResult) (s : State) : (answer r s).reqData = s.reqData := rfl
@[simp] theorem answer_resStatus (r : OpResult) (s : State) : (answer r s).resStatus = s.resStatus := rfl
@[simp] theorem answer_rdata (r : OpResult) (s : State) : (answer r s).rdata = s.rdata := rfl
@[simp] theorem answer_resConn (r : OpResult) (s : State) : (answer r s).resConn = s.resConn := rfl
@[simp] theorem answer_teState (r : OpResult) (s : State) : (answer r s).teState = s.teState := rfl
@[simp] theorem answer_txlen (r : OpResult) (s : State) : (answer r s).txlen = s.txlen := rfl
@[simp] theorem answer_txidx (r : OpResult) (s : State) : (answer r s).txidx = s.txidx := rfl
@[simp] theorem answer_explen (r : OpResult) (s : State) : (answer r s).explen = s.explen := rfl
@[simp] theorem answer_rxidx (r : OpResult) (s : State) : (answer r s).rxidx = s.rxidx := rfl
@[simp] theorem answer_attempt (r : OpResult) (s : State) : (answer r s).attempt = s.attempt := rfl
@[simp] theorem answer_timer (r : OpResult) (s : State) : (answer r s).timer = s.timer := rfl
@[simp] theorem answer_txbuf (r : OpResult) (s : State) : (answer r s).txbuf = s.txbuf := rfl
@[simp] theorem answer_rxfrm (r : OpResult) (s : State) : (answer r s).rxfrm = s.rxfrm := rfl
@[simp] theorem answer_chOpen (r : OpResult) (s : State) : (answer r s).chOpen = s.chOpen := rfl
@[simp] theorem answer_cfgDev (r : OpResult) (s : State) : (answer r s).cfgDev = s.cfgDev := rfl
@[simp] theorem answer_cfgBaud (r : OpResult) (s : State) : (answer r s).cfgBaud = s.cfgBaud := rfl
@[simp] theorem answer_rxbuf (r : OpResult) (s : State) : (answer r s).rxbuf = s.rxbuf := rfl
@[simp] theorem answer_rxErr (r : OpResult) (s : State) : (answer r s).rxErr = s.rxErr := rfl
@[simp] theorem answer_cmd (r : OpResult) (s : State) : (answer r s).cmd = s.cmd := rfl
@[simp] theorem answer_openAnswers (r : OpResult) (s : State) : (answer r s).openAnswers = s.openAnswers := rfl
@[simp] theorem answer_sendAnswers (r : OpResult) (s : State) : (answer r s).sendAnswers = s.sendAnswers := rfl
@[simp] theorem answer_schedule (r : OpResult) (s : State) : (answer r s).schedule = s.schedule := rfl
@[simp] theorem answer_trace (r : OpResult) (s : State) : (answer r s).trace = s.trace := rfl
@[simp] theorem answer_params (r : OpResult) (s : State) : (answer r s).params = s.params := rfl
@[simp] theorem answer_draws (r : OpResult) (s : State) : (answer r s).draws = s.draws := rfl
@[simp] theorem answer_opResult (r : OpResult) (s : State) : (answer r s).opResult = r := rfl

/-! `withdraw`: the command interface, nothing else (R121). -/

@[simp] theorem withdraw_reqOp (s : State) : (withdraw s).reqOp = s.reqOp := rfl
@[simp] theorem withdraw_reqAddr (s : State) : (withdraw s).reqAddr = s.reqAddr := rfl
@[simp] theorem withdraw_reqData (s : State) : (withdraw s).reqData = s.reqData := rfl
@[simp] theorem withdraw_resStatus (s : State) : (withdraw s).resStatus = s.resStatus := rfl
@[simp] theorem withdraw_rdata (s : State) : (withdraw s).rdata = s.rdata := rfl
@[simp] theorem withdraw_resConn (s : State) : (withdraw s).resConn = s.resConn := rfl
@[simp] theorem withdraw_teState (s : State) : (withdraw s).teState = s.teState := rfl
@[simp] theorem withdraw_txlen (s : State) : (withdraw s).txlen = s.txlen := rfl
@[simp] theorem withdraw_txidx (s : State) : (withdraw s).txidx = s.txidx := rfl
@[simp] theorem withdraw_explen (s : State) : (withdraw s).explen = s.explen := rfl
@[simp] theorem withdraw_rxidx (s : State) : (withdraw s).rxidx = s.rxidx := rfl
@[simp] theorem withdraw_attempt (s : State) : (withdraw s).attempt = s.attempt := rfl
@[simp] theorem withdraw_timer (s : State) : (withdraw s).timer = s.timer := rfl
@[simp] theorem withdraw_txbuf (s : State) : (withdraw s).txbuf = s.txbuf := rfl
@[simp] theorem withdraw_rxfrm (s : State) : (withdraw s).rxfrm = s.rxfrm := rfl
@[simp] theorem withdraw_chOpen (s : State) : (withdraw s).chOpen = s.chOpen := rfl
@[simp] theorem withdraw_cfgDev (s : State) : (withdraw s).cfgDev = s.cfgDev := rfl
@[simp] theorem withdraw_cfgBaud (s : State) : (withdraw s).cfgBaud = s.cfgBaud := rfl
@[simp] theorem withdraw_rxbuf (s : State) : (withdraw s).rxbuf = s.rxbuf := rfl
@[simp] theorem withdraw_rxErr (s : State) : (withdraw s).rxErr = s.rxErr := rfl
@[simp] theorem withdraw_cmd (s : State) : (withdraw s).cmd = none := rfl
@[simp] theorem withdraw_openAnswers (s : State) : (withdraw s).openAnswers = s.openAnswers := rfl
@[simp] theorem withdraw_sendAnswers (s : State) : (withdraw s).sendAnswers = s.sendAnswers := rfl
@[simp] theorem withdraw_schedule (s : State) : (withdraw s).schedule = s.schedule := rfl
@[simp] theorem withdraw_trace (s : State) : (withdraw s).trace = s.trace := rfl
@[simp] theorem withdraw_params (s : State) : (withdraw s).params = s.params := rfl
@[simp] theorem withdraw_draws (s : State) : (withdraw s).draws = s.draws := rfl
@[simp] theorem withdraw_opResult (s : State) : (withdraw s).opResult = s.opResult := rfl

/-! `complete`: RES_STATUS, TE_STATE and the Done event, nothing else (R134). -/

@[simp] theorem complete_reqOp (op : Opcode) (st : Byte) (s : State) : (complete op st s).reqOp = s.reqOp := rfl
@[simp] theorem complete_reqAddr (op : Opcode) (st : Byte) (s : State) : (complete op st s).reqAddr = s.reqAddr := rfl
@[simp] theorem complete_reqData (op : Opcode) (st : Byte) (s : State) : (complete op st s).reqData = s.reqData := rfl
@[simp] theorem complete_resStatus (op : Opcode) (st : Byte) (s : State) : (complete op st s).resStatus = st := rfl
@[simp] theorem complete_rdata (op : Opcode) (st : Byte) (s : State) : (complete op st s).rdata = s.rdata := rfl
@[simp] theorem complete_resConn (op : Opcode) (st : Byte) (s : State) : (complete op st s).resConn = s.resConn := rfl
@[simp] theorem complete_teState (op : Opcode) (st : Byte) (s : State) : (complete op st s).teState = .idle := rfl
@[simp] theorem complete_txlen (op : Opcode) (st : Byte) (s : State) : (complete op st s).txlen = s.txlen := rfl
@[simp] theorem complete_txidx (op : Opcode) (st : Byte) (s : State) : (complete op st s).txidx = s.txidx := rfl
@[simp] theorem complete_explen (op : Opcode) (st : Byte) (s : State) : (complete op st s).explen = s.explen := rfl
@[simp] theorem complete_rxidx (op : Opcode) (st : Byte) (s : State) : (complete op st s).rxidx = s.rxidx := rfl
@[simp] theorem complete_attempt (op : Opcode) (st : Byte) (s : State) : (complete op st s).attempt = s.attempt := rfl
@[simp] theorem complete_timer (op : Opcode) (st : Byte) (s : State) : (complete op st s).timer = s.timer := rfl
@[simp] theorem complete_txbuf (op : Opcode) (st : Byte) (s : State) : (complete op st s).txbuf = s.txbuf := rfl
@[simp] theorem complete_rxfrm (op : Opcode) (st : Byte) (s : State) : (complete op st s).rxfrm = s.rxfrm := rfl
@[simp] theorem complete_chOpen (op : Opcode) (st : Byte) (s : State) : (complete op st s).chOpen = s.chOpen := rfl
@[simp] theorem complete_cfgDev (op : Opcode) (st : Byte) (s : State) : (complete op st s).cfgDev = s.cfgDev := rfl
@[simp] theorem complete_cfgBaud (op : Opcode) (st : Byte) (s : State) : (complete op st s).cfgBaud = s.cfgBaud := rfl
@[simp] theorem complete_rxbuf (op : Opcode) (st : Byte) (s : State) : (complete op st s).rxbuf = s.rxbuf := rfl
@[simp] theorem complete_rxErr (op : Opcode) (st : Byte) (s : State) : (complete op st s).rxErr = s.rxErr := rfl
@[simp] theorem complete_cmd (op : Opcode) (st : Byte) (s : State) : (complete op st s).cmd = s.cmd := rfl
@[simp] theorem complete_openAnswers (op : Opcode) (st : Byte) (s : State) : (complete op st s).openAnswers = s.openAnswers := rfl
@[simp] theorem complete_sendAnswers (op : Opcode) (st : Byte) (s : State) : (complete op st s).sendAnswers = s.sendAnswers := rfl
@[simp] theorem complete_schedule (op : Opcode) (st : Byte) (s : State) : (complete op st s).schedule = s.schedule := rfl
@[simp] theorem complete_trace (op : Opcode) (st : Byte) (s : State) : (complete op st s).trace = s.trace ++ [doneEvent op st s] := rfl
@[simp] theorem complete_params (op : Opcode) (st : Byte) (s : State) : (complete op st s).params = s.params := rfl
@[simp] theorem complete_draws (op : Opcode) (st : Byte) (s : State) : (complete op st s).draws = s.draws := rfl
@[simp] theorem complete_opResult (op : Opcode) (st : Byte) (s : State) : (complete op st s).opResult = s.opResult := rfl

/-! `saFlush`: RXBUF, RX_ERR and the Flush event, nothing else (R164). -/

@[simp] theorem saFlush_reqOp (s : State) : (saFlush s).reqOp = s.reqOp := rfl
@[simp] theorem saFlush_reqAddr (s : State) : (saFlush s).reqAddr = s.reqAddr := rfl
@[simp] theorem saFlush_reqData (s : State) : (saFlush s).reqData = s.reqData := rfl
@[simp] theorem saFlush_resStatus (s : State) : (saFlush s).resStatus = s.resStatus := rfl
@[simp] theorem saFlush_rdata (s : State) : (saFlush s).rdata = s.rdata := rfl
@[simp] theorem saFlush_resConn (s : State) : (saFlush s).resConn = s.resConn := rfl
@[simp] theorem saFlush_teState (s : State) : (saFlush s).teState = s.teState := rfl
@[simp] theorem saFlush_txlen (s : State) : (saFlush s).txlen = s.txlen := rfl
@[simp] theorem saFlush_txidx (s : State) : (saFlush s).txidx = s.txidx := rfl
@[simp] theorem saFlush_explen (s : State) : (saFlush s).explen = s.explen := rfl
@[simp] theorem saFlush_rxidx (s : State) : (saFlush s).rxidx = s.rxidx := rfl
@[simp] theorem saFlush_attempt (s : State) : (saFlush s).attempt = s.attempt := rfl
@[simp] theorem saFlush_timer (s : State) : (saFlush s).timer = s.timer := rfl
@[simp] theorem saFlush_txbuf (s : State) : (saFlush s).txbuf = s.txbuf := rfl
@[simp] theorem saFlush_rxfrm (s : State) : (saFlush s).rxfrm = s.rxfrm := rfl
@[simp] theorem saFlush_chOpen (s : State) : (saFlush s).chOpen = s.chOpen := rfl
@[simp] theorem saFlush_cfgDev (s : State) : (saFlush s).cfgDev = s.cfgDev := rfl
@[simp] theorem saFlush_cfgBaud (s : State) : (saFlush s).cfgBaud = s.cfgBaud := rfl
@[simp] theorem saFlush_rxbuf (s : State) : (saFlush s).rxbuf = [] := rfl
@[simp] theorem saFlush_rxErr (s : State) : (saFlush s).rxErr = false := rfl
@[simp] theorem saFlush_cmd (s : State) : (saFlush s).cmd = s.cmd := rfl
@[simp] theorem saFlush_openAnswers (s : State) : (saFlush s).openAnswers = s.openAnswers := rfl
@[simp] theorem saFlush_sendAnswers (s : State) : (saFlush s).sendAnswers = s.sendAnswers := rfl
@[simp] theorem saFlush_schedule (s : State) : (saFlush s).schedule = s.schedule := rfl
@[simp] theorem saFlush_trace (s : State) : (saFlush s).trace = s.trace ++ [.flush] := rfl
@[simp] theorem saFlush_params (s : State) : (saFlush s).params = s.params := rfl
@[simp] theorem saFlush_draws (s : State) : (saFlush s).draws = s.draws := rfl
@[simp] theorem saFlush_opResult (s : State) : (saFlush s).opResult = s.opResult := rfl

/-! `closeChannel`: the closing half of SA.OPEN (R161). -/

@[simp] theorem closeChannel_reqOp (s : State) : (closeChannel s).reqOp = s.reqOp := rfl
@[simp] theorem closeChannel_reqAddr (s : State) : (closeChannel s).reqAddr = s.reqAddr := rfl
@[simp] theorem closeChannel_reqData (s : State) : (closeChannel s).reqData = s.reqData := rfl
@[simp] theorem closeChannel_resStatus (s : State) : (closeChannel s).resStatus = s.resStatus := rfl
@[simp] theorem closeChannel_rdata (s : State) : (closeChannel s).rdata = s.rdata := rfl
@[simp] theorem closeChannel_resConn (s : State) : (closeChannel s).resConn = s.resConn := rfl
@[simp] theorem closeChannel_teState (s : State) : (closeChannel s).teState = s.teState := rfl
@[simp] theorem closeChannel_txlen (s : State) : (closeChannel s).txlen = s.txlen := rfl
@[simp] theorem closeChannel_txidx (s : State) : (closeChannel s).txidx = s.txidx := rfl
@[simp] theorem closeChannel_explen (s : State) : (closeChannel s).explen = s.explen := rfl
@[simp] theorem closeChannel_rxidx (s : State) : (closeChannel s).rxidx = s.rxidx := rfl
@[simp] theorem closeChannel_attempt (s : State) : (closeChannel s).attempt = s.attempt := rfl
@[simp] theorem closeChannel_timer (s : State) : (closeChannel s).timer = s.timer := rfl
@[simp] theorem closeChannel_txbuf (s : State) : (closeChannel s).txbuf = s.txbuf := rfl
@[simp] theorem closeChannel_rxfrm (s : State) : (closeChannel s).rxfrm = s.rxfrm := rfl
@[simp] theorem closeChannel_chOpen (s : State) : (closeChannel s).chOpen = false := rfl
@[simp] theorem closeChannel_cfgDev (s : State) : (closeChannel s).cfgDev = s.cfgDev := rfl
@[simp] theorem closeChannel_cfgBaud (s : State) : (closeChannel s).cfgBaud = s.cfgBaud := rfl
@[simp] theorem closeChannel_rxbuf (s : State) : (closeChannel s).rxbuf = [] := rfl
@[simp] theorem closeChannel_rxErr (s : State) : (closeChannel s).rxErr = false := rfl
@[simp] theorem closeChannel_cmd (s : State) : (closeChannel s).cmd = s.cmd := rfl
@[simp] theorem closeChannel_openAnswers (s : State) : (closeChannel s).openAnswers = s.openAnswers := rfl
@[simp] theorem closeChannel_sendAnswers (s : State) : (closeChannel s).sendAnswers = s.sendAnswers := rfl
@[simp] theorem closeChannel_schedule (s : State) : (closeChannel s).schedule = s.schedule := rfl
@[simp] theorem closeChannel_trace (s : State) : (closeChannel s).trace = s.trace := rfl
@[simp] theorem closeChannel_params (s : State) : (closeChannel s).params = s.params := rfl
@[simp] theorem closeChannel_draws (s : State) : (closeChannel s).draws = s.draws := rfl
@[simp] theorem closeChannel_opResult (s : State) : (closeChannel s).opResult = s.opResult := rfl

/-! `channelOpened`: the opening half of SA.OPEN (R161). -/

@[simp] theorem channelOpened_reqOp (dev : DevId) (baud : Word) (s : State) : (channelOpened dev baud s).reqOp = s.reqOp := rfl
@[simp] theorem channelOpened_reqAddr (dev : DevId) (baud : Word) (s : State) : (channelOpened dev baud s).reqAddr = s.reqAddr := rfl
@[simp] theorem channelOpened_reqData (dev : DevId) (baud : Word) (s : State) : (channelOpened dev baud s).reqData = s.reqData := rfl
@[simp] theorem channelOpened_resStatus (dev : DevId) (baud : Word) (s : State) : (channelOpened dev baud s).resStatus = s.resStatus := rfl
@[simp] theorem channelOpened_rdata (dev : DevId) (baud : Word) (s : State) : (channelOpened dev baud s).rdata = s.rdata := rfl
@[simp] theorem channelOpened_resConn (dev : DevId) (baud : Word) (s : State) : (channelOpened dev baud s).resConn = s.resConn := rfl
@[simp] theorem channelOpened_teState (dev : DevId) (baud : Word) (s : State) : (channelOpened dev baud s).teState = s.teState := rfl
@[simp] theorem channelOpened_txlen (dev : DevId) (baud : Word) (s : State) : (channelOpened dev baud s).txlen = s.txlen := rfl
@[simp] theorem channelOpened_txidx (dev : DevId) (baud : Word) (s : State) : (channelOpened dev baud s).txidx = s.txidx := rfl
@[simp] theorem channelOpened_explen (dev : DevId) (baud : Word) (s : State) : (channelOpened dev baud s).explen = s.explen := rfl
@[simp] theorem channelOpened_rxidx (dev : DevId) (baud : Word) (s : State) : (channelOpened dev baud s).rxidx = s.rxidx := rfl
@[simp] theorem channelOpened_attempt (dev : DevId) (baud : Word) (s : State) : (channelOpened dev baud s).attempt = s.attempt := rfl
@[simp] theorem channelOpened_timer (dev : DevId) (baud : Word) (s : State) : (channelOpened dev baud s).timer = s.timer := rfl
@[simp] theorem channelOpened_txbuf (dev : DevId) (baud : Word) (s : State) : (channelOpened dev baud s).txbuf = s.txbuf := rfl
@[simp] theorem channelOpened_rxfrm (dev : DevId) (baud : Word) (s : State) : (channelOpened dev baud s).rxfrm = s.rxfrm := rfl
@[simp] theorem channelOpened_chOpen (dev : DevId) (baud : Word) (s : State) : (channelOpened dev baud s).chOpen = true := rfl
@[simp] theorem channelOpened_cfgDev (dev : DevId) (baud : Word) (s : State) : (channelOpened dev baud s).cfgDev = dev := rfl
@[simp] theorem channelOpened_cfgBaud (dev : DevId) (baud : Word) (s : State) : (channelOpened dev baud s).cfgBaud = baud := rfl
@[simp] theorem channelOpened_rxbuf (dev : DevId) (baud : Word) (s : State) : (channelOpened dev baud s).rxbuf = s.rxbuf := rfl
@[simp] theorem channelOpened_rxErr (dev : DevId) (baud : Word) (s : State) : (channelOpened dev baud s).rxErr = s.rxErr := rfl
@[simp] theorem channelOpened_cmd (dev : DevId) (baud : Word) (s : State) : (channelOpened dev baud s).cmd = s.cmd := rfl
@[simp] theorem channelOpened_openAnswers (dev : DevId) (baud : Word) (s : State) : (channelOpened dev baud s).openAnswers = s.openAnswers := rfl
@[simp] theorem channelOpened_sendAnswers (dev : DevId) (baud : Word) (s : State) : (channelOpened dev baud s).sendAnswers = s.sendAnswers := rfl
@[simp] theorem channelOpened_schedule (dev : DevId) (baud : Word) (s : State) : (channelOpened dev baud s).schedule = s.schedule := rfl
@[simp] theorem channelOpened_trace (dev : DevId) (baud : Word) (s : State) : (channelOpened dev baud s).trace = s.trace := rfl
@[simp] theorem channelOpened_params (dev : DevId) (baud : Word) (s : State) : (channelOpened dev baud s).params = s.params := rfl
@[simp] theorem channelOpened_draws (dev : DevId) (baud : Word) (s : State) : (channelOpened dev baud s).draws = s.draws := rfl
@[simp] theorem channelOpened_opResult (dev : DevId) (baud : Word) (s : State) : (channelOpened dev baud s).opResult = s.opResult := rfl

/-! `loadRequest`: what T4 writes (R125). -/

@[simp] theorem loadRequest_reqOp (op : Opcode) (f : List Byte) (s : State) : (loadRequest op f s).reqOp = s.reqOp := rfl
@[simp] theorem loadRequest_reqAddr (op : Opcode) (f : List Byte) (s : State) : (loadRequest op f s).reqAddr = s.reqAddr := rfl
@[simp] theorem loadRequest_reqData (op : Opcode) (f : List Byte) (s : State) : (loadRequest op f s).reqData = s.reqData := rfl
@[simp] theorem loadRequest_resStatus (op : Opcode) (f : List Byte) (s : State) : (loadRequest op f s).resStatus = s.resStatus := rfl
@[simp] theorem loadRequest_rdata (op : Opcode) (f : List Byte) (s : State) : (loadRequest op f s).rdata = s.rdata := rfl
@[simp] theorem loadRequest_resConn (op : Opcode) (f : List Byte) (s : State) : (loadRequest op f s).resConn = s.resConn := rfl
@[simp] theorem loadRequest_teState (op : Opcode) (f : List Byte) (s : State) : (loadRequest op f s).teState = .tx := rfl
@[simp] theorem loadRequest_txlen (op : Opcode) (f : List Byte) (s : State) : (loadRequest op f s).txlen = BitVec.ofNat 4 f.length := rfl
@[simp] theorem loadRequest_txidx (op : Opcode) (f : List Byte) (s : State) : (loadRequest op f s).txidx = 0 := rfl
@[simp] theorem loadRequest_explen (op : Opcode) (f : List Byte) (s : State) : (loadRequest op f s).explen = BitVec.ofNat 4 (explenOf op) := rfl
@[simp] theorem loadRequest_rxidx (op : Opcode) (f : List Byte) (s : State) : (loadRequest op f s).rxidx = 0 := rfl
@[simp] theorem loadRequest_attempt (op : Opcode) (f : List Byte) (s : State) : (loadRequest op f s).attempt = s.attempt := rfl
@[simp] theorem loadRequest_timer (op : Opcode) (f : List Byte) (s : State) : (loadRequest op f s).timer = s.timer := rfl
@[simp] theorem loadRequest_txbuf (op : Opcode) (f : List Byte) (s : State) : (loadRequest op f s).txbuf = writeFrame s.txbuf f := rfl
@[simp] theorem loadRequest_rxfrm (op : Opcode) (f : List Byte) (s : State) : (loadRequest op f s).rxfrm = s.rxfrm := rfl
@[simp] theorem loadRequest_chOpen (op : Opcode) (f : List Byte) (s : State) : (loadRequest op f s).chOpen = s.chOpen := rfl
@[simp] theorem loadRequest_cfgDev (op : Opcode) (f : List Byte) (s : State) : (loadRequest op f s).cfgDev = s.cfgDev := rfl
@[simp] theorem loadRequest_cfgBaud (op : Opcode) (f : List Byte) (s : State) : (loadRequest op f s).cfgBaud = s.cfgBaud := rfl
@[simp] theorem loadRequest_rxbuf (op : Opcode) (f : List Byte) (s : State) : (loadRequest op f s).rxbuf = [] := rfl
@[simp] theorem loadRequest_rxErr (op : Opcode) (f : List Byte) (s : State) : (loadRequest op f s).rxErr = false := rfl
@[simp] theorem loadRequest_cmd (op : Opcode) (f : List Byte) (s : State) : (loadRequest op f s).cmd = s.cmd := rfl
@[simp] theorem loadRequest_openAnswers (op : Opcode) (f : List Byte) (s : State) : (loadRequest op f s).openAnswers = s.openAnswers := rfl
@[simp] theorem loadRequest_sendAnswers (op : Opcode) (f : List Byte) (s : State) : (loadRequest op f s).sendAnswers = s.sendAnswers := rfl
@[simp] theorem loadRequest_schedule (op : Opcode) (f : List Byte) (s : State) : (loadRequest op f s).schedule = s.schedule := rfl
@[simp] theorem loadRequest_trace (op : Opcode) (f : List Byte) (s : State) : (loadRequest op f s).trace = s.trace ++ [.flush] := rfl
@[simp] theorem loadRequest_params (op : Opcode) (f : List Byte) (s : State) : (loadRequest op f s).params = s.params := rfl
@[simp] theorem loadRequest_draws (op : Opcode) (f : List Byte) (s : State) : (loadRequest op f s).draws = s.draws := rfl
@[simp] theorem loadRequest_opResult (op : Opcode) (f : List Byte) (s : State) : (loadRequest op f s).opResult = s.opResult := rfl

/-! `turnTaken`: the turn, nothing else (R7). -/

@[simp] theorem turnTaken_reqOp (s : State) : (turnTaken s).reqOp = s.reqOp := rfl
@[simp] theorem turnTaken_reqAddr (s : State) : (turnTaken s).reqAddr = s.reqAddr := rfl
@[simp] theorem turnTaken_reqData (s : State) : (turnTaken s).reqData = s.reqData := rfl
@[simp] theorem turnTaken_resStatus (s : State) : (turnTaken s).resStatus = s.resStatus := rfl
@[simp] theorem turnTaken_rdata (s : State) : (turnTaken s).rdata = s.rdata := rfl
@[simp] theorem turnTaken_resConn (s : State) : (turnTaken s).resConn = s.resConn := rfl
@[simp] theorem turnTaken_teState (s : State) : (turnTaken s).teState = s.teState := rfl
@[simp] theorem turnTaken_txlen (s : State) : (turnTaken s).txlen = s.txlen := rfl
@[simp] theorem turnTaken_txidx (s : State) : (turnTaken s).txidx = s.txidx := rfl
@[simp] theorem turnTaken_explen (s : State) : (turnTaken s).explen = s.explen := rfl
@[simp] theorem turnTaken_rxidx (s : State) : (turnTaken s).rxidx = s.rxidx := rfl
@[simp] theorem turnTaken_attempt (s : State) : (turnTaken s).attempt = s.attempt := rfl
@[simp] theorem turnTaken_timer (s : State) : (turnTaken s).timer = s.timer := rfl
@[simp] theorem turnTaken_txbuf (s : State) : (turnTaken s).txbuf = s.txbuf := rfl
@[simp] theorem turnTaken_rxfrm (s : State) : (turnTaken s).rxfrm = s.rxfrm := rfl
@[simp] theorem turnTaken_chOpen (s : State) : (turnTaken s).chOpen = s.chOpen := rfl
@[simp] theorem turnTaken_cfgDev (s : State) : (turnTaken s).cfgDev = s.cfgDev := rfl
@[simp] theorem turnTaken_cfgBaud (s : State) : (turnTaken s).cfgBaud = s.cfgBaud := rfl
@[simp] theorem turnTaken_rxbuf (s : State) : (turnTaken s).rxbuf = s.rxbuf := rfl
@[simp] theorem turnTaken_rxErr (s : State) : (turnTaken s).rxErr = s.rxErr := rfl
@[simp] theorem turnTaken_cmd (s : State) : (turnTaken s).cmd = s.cmd := rfl
@[simp] theorem turnTaken_openAnswers (s : State) : (turnTaken s).openAnswers = s.openAnswers := rfl
@[simp] theorem turnTaken_sendAnswers (s : State) : (turnTaken s).sendAnswers = s.sendAnswers := rfl
@[simp] theorem turnTaken_schedule (s : State) : (turnTaken s).schedule = s.schedule.tail := rfl
@[simp] theorem turnTaken_trace (s : State) : (turnTaken s).trace = s.trace := rfl
@[simp] theorem turnTaken_params (s : State) : (turnTaken s).params = s.params := rfl
@[simp] theorem turnTaken_draws (s : State) : (turnTaken s).draws = s.draws := rfl
@[simp] theorem turnTaken_opResult (s : State) : (turnTaken s).opResult = s.opResult := rfl

end Sys2Proof.Machine
end

