-- ==== Sys2Proof/Laws/Ops.lean ====
section
/-! SUPPORT. What each shared operation can do, said once: the lemmas a proof cites instead of unfolding the operation. -/

namespace Sys2Proof.Machine

@[simp] theorem raise_eq (op : Opcode) (code : Byte) (s : State) : raise op code s = complete op code s := rfl

/-- AttemptFailed completes with E_NO_RESPONSE at the limit and else starts the next attempt (R133). -/
theorem attemptFailed_cases (op : Opcode) (s : State) :
    (s.attempt = s.params.maxAttempts ∧ attemptFailed op s = complete op Config.eNoResponse s) ∨
    (s.attempt ≠ s.params.maxAttempts ∧
      attemptFailed op s = { s with attempt := s.attempt + 1, teState := .prep }) := by
  by_cases h : s.attempt = s.params.maxAttempts
  · exact .inl ⟨h, by simp [attemptFailed, h]⟩
  · exact .inr ⟨h, by simp [attemptFailed, h]⟩

/-! What AttemptFailed leaves alone (R133): everything but ATTEMPT, TE_STATE, RES_STATUS and the trace. -/

@[simp] theorem attemptFailed_reqOp (op : Opcode) (s : State) : (attemptFailed op s).reqOp = s.reqOp := by
  rcases attemptFailed_cases op s with ⟨_, h⟩ | ⟨_, h⟩ <;> rw [h] <;> rfl
@[simp] theorem attemptFailed_reqAddr (op : Opcode) (s : State) : (attemptFailed op s).reqAddr = s.reqAddr := by
  rcases attemptFailed_cases op s with ⟨_, h⟩ | ⟨_, h⟩ <;> rw [h] <;> rfl
@[simp] theorem attemptFailed_reqData (op : Opcode) (s : State) : (attemptFailed op s).reqData = s.reqData := by
  rcases attemptFailed_cases op s with ⟨_, h⟩ | ⟨_, h⟩ <;> rw [h] <;> rfl
@[simp] theorem attemptFailed_rdata (op : Opcode) (s : State) : (attemptFailed op s).rdata = s.rdata := by
  rcases attemptFailed_cases op s with ⟨_, h⟩ | ⟨_, h⟩ <;> rw [h] <;> rfl
@[simp] theorem attemptFailed_resConn (op : Opcode) (s : State) : (attemptFailed op s).resConn = s.resConn := by
  rcases attemptFailed_cases op s with ⟨_, h⟩ | ⟨_, h⟩ <;> rw [h] <;> rfl
@[simp] theorem attemptFailed_txlen (op : Opcode) (s : State) : (attemptFailed op s).txlen = s.txlen := by
  rcases attemptFailed_cases op s with ⟨_, h⟩ | ⟨_, h⟩ <;> rw [h] <;> rfl
@[simp] theorem attemptFailed_txidx (op : Opcode) (s : State) : (attemptFailed op s).txidx = s.txidx := by
  rcases attemptFailed_cases op s with ⟨_, h⟩ | ⟨_, h⟩ <;> rw [h] <;> rfl
@[simp] theorem attemptFailed_explen (op : Opcode) (s : State) : (attemptFailed op s).explen = s.explen := by
  rcases attemptFailed_cases op s with ⟨_, h⟩ | ⟨_, h⟩ <;> rw [h] <;> rfl
@[simp] theorem attemptFailed_rxidx (op : Opcode) (s : State) : (attemptFailed op s).rxidx = s.rxidx := by
  rcases attemptFailed_cases op s with ⟨_, h⟩ | ⟨_, h⟩ <;> rw [h] <;> rfl
@[simp] theorem attemptFailed_timer (op : Opcode) (s : State) : (attemptFailed op s).timer = s.timer := by
  rcases attemptFailed_cases op s with ⟨_, h⟩ | ⟨_, h⟩ <;> rw [h] <;> rfl
@[simp] theorem attemptFailed_txbuf (op : Opcode) (s : State) : (attemptFailed op s).txbuf = s.txbuf := by
  rcases attemptFailed_cases op s with ⟨_, h⟩ | ⟨_, h⟩ <;> rw [h] <;> rfl
@[simp] theorem attemptFailed_rxfrm (op : Opcode) (s : State) : (attemptFailed op s).rxfrm = s.rxfrm := by
  rcases attemptFailed_cases op s with ⟨_, h⟩ | ⟨_, h⟩ <;> rw [h] <;> rfl
@[simp] theorem attemptFailed_chOpen (op : Opcode) (s : State) : (attemptFailed op s).chOpen = s.chOpen := by
  rcases attemptFailed_cases op s with ⟨_, h⟩ | ⟨_, h⟩ <;> rw [h] <;> rfl
@[simp] theorem attemptFailed_cfgDev (op : Opcode) (s : State) : (attemptFailed op s).cfgDev = s.cfgDev := by
  rcases attemptFailed_cases op s with ⟨_, h⟩ | ⟨_, h⟩ <;> rw [h] <;> rfl
@[simp] theorem attemptFailed_cfgBaud (op : Opcode) (s : State) : (attemptFailed op s).cfgBaud = s.cfgBaud := by
  rcases attemptFailed_cases op s with ⟨_, h⟩ | ⟨_, h⟩ <;> rw [h] <;> rfl
@[simp] theorem attemptFailed_rxbuf (op : Opcode) (s : State) : (attemptFailed op s).rxbuf = s.rxbuf := by
  rcases attemptFailed_cases op s with ⟨_, h⟩ | ⟨_, h⟩ <;> rw [h] <;> rfl
@[simp] theorem attemptFailed_rxErr (op : Opcode) (s : State) : (attemptFailed op s).rxErr = s.rxErr := by
  rcases attemptFailed_cases op s with ⟨_, h⟩ | ⟨_, h⟩ <;> rw [h] <;> rfl
@[simp] theorem attemptFailed_cmd (op : Opcode) (s : State) : (attemptFailed op s).cmd = s.cmd := by
  rcases attemptFailed_cases op s with ⟨_, h⟩ | ⟨_, h⟩ <;> rw [h] <;> rfl
@[simp] theorem attemptFailed_openAnswers (op : Opcode) (s : State) : (attemptFailed op s).openAnswers = s.openAnswers := by
  rcases attemptFailed_cases op s with ⟨_, h⟩ | ⟨_, h⟩ <;> rw [h] <;> rfl
@[simp] theorem attemptFailed_sendAnswers (op : Opcode) (s : State) : (attemptFailed op s).sendAnswers = s.sendAnswers := by
  rcases attemptFailed_cases op s with ⟨_, h⟩ | ⟨_, h⟩ <;> rw [h] <;> rfl
@[simp] theorem attemptFailed_schedule (op : Opcode) (s : State) : (attemptFailed op s).schedule = s.schedule := by
  rcases attemptFailed_cases op s with ⟨_, h⟩ | ⟨_, h⟩ <;> rw [h] <;> rfl
@[simp] theorem attemptFailed_params (op : Opcode) (s : State) : (attemptFailed op s).params = s.params := by
  rcases attemptFailed_cases op s with ⟨_, h⟩ | ⟨_, h⟩ <;> rw [h] <;> rfl
@[simp] theorem attemptFailed_draws (op : Opcode) (s : State) : (attemptFailed op s).draws = s.draws := by
  rcases attemptFailed_cases op s with ⟨_, h⟩ | ⟨_, h⟩ <;> rw [h] <;> rfl
@[simp] theorem attemptFailed_opResult (op : Opcode) (s : State) : (attemptFailed op s).opResult = s.opResult := by
  rcases attemptFailed_cases op s with ⟨_, h⟩ | ⟨_, h⟩ <;> rw [h] <;> rfl

/-- A meaning that goes on with the latched operation answers next only for one of the two tags (R95). -/
theorem withLatchedOp_next {s t : State} {k : Opcode → Out} (h : withLatchedOp s k = .next t) :
    ∃ op, opOfTag s.reqOp = some op ∧ k op = .next t := by
  unfold withLatchedOp at h
  split at h
  · rename_i op e; exact ⟨op, e, h⟩
  · cases h

theorem withLatchedOp_some {s : State} {op : Opcode} (h : opOfTag s.reqOp = some op) (k : Opcode → Out) :
    withLatchedOp s k = k op := by
  simp [withLatchedOp, h]

/-- Taking an open's answer touches the environment's answers and the draw counter, nothing else. -/
theorem takeOpenAnswer_eq (s : State) :
    ∃ answers n, takeOpenAnswer s = { s with openAnswers := answers, draws := n } := by
  unfold takeOpenAnswer
  split
  · rename_i rest _; exact ⟨rest, s.draws, rfl⟩
  · exact ⟨s.openAnswers, s.draws + 1, rfl⟩

/-- Taking a send's answer touches the environment's answers and the draw counter, nothing else. -/
theorem takeLineAnswer_eq (s : State) :
    ∃ answers n, takeLineAnswer s = { s with sendAnswers := answers, draws := n } := by
  unfold takeLineAnswer
  split
  · rename_i rest _; exact ⟨rest, s.draws, rfl⟩
  · exact ⟨s.sendAnswers, s.draws + 1, rfl⟩

/-- SA.OPEN writes the adapter's state and uses an answer, nothing else (R161). -/
theorem saOpen_eq (dev : DevId) (baud : Word) (s : State) :
    ∃ answers n, saOpen dev baud s =
      { s with
        chOpen := openAnswer dev baud s
        cfgDev := if openAnswer dev baud s then dev else s.cfgDev
        cfgBaud := if openAnswer dev baud s then baud else s.cfgBaud
        rxbuf := []
        rxErr := false
        openAnswers := answers
        draws := n } := by
  obtain ⟨answers, n, h⟩ := takeOpenAnswer_eq (closeChannel s)
  refine ⟨answers, n, ?_⟩
  cases hr : openAnswer dev baud s
  · simp only [saOpen, hr, Bool.false_eq_true, if_false, h]; rfl
  · simp only [saOpen, hr, if_true, h]; rfl

/-- SA.SEND uses an answer and emits Tx when the result is ok, nothing else (R162). -/
theorem saSend_eq (b : Byte) (s : State) :
    ∃ answers n, saSend b s =
      { s with
        trace := if sendResult s then s.trace ++ [.tx b] else s.trace
        sendAnswers := answers
        draws := n } := by
  obtain ⟨answers, n, h⟩ := takeLineAnswer_eq s
  by_cases hc : s.chOpen = true
  · refine ⟨answers, n, ?_⟩
    by_cases hl : lineAnswer s = true
    · have hr : sendResult s = true := by simp [sendResult, hc, hl]
      simp only [saSend, hc, hl, hr, if_true, h]; rfl
    · have hr : sendResult s = false := by simp [sendResult, hl]
      simp only [saSend, hc, hl, hr, if_true, Bool.false_eq_true, if_false, h]
  · have hr : sendResult s = false := by simp [sendResult, hc]
    exact ⟨s.sendAnswers, s.draws, by unfold saSend; rw [if_neg hc, hr]; rfl⟩

/-- SA.RECV takes at most the head of RXBUF (R163). -/
theorem saRecv_eq (s : State) : ∃ buf, saRecv s = { s with rxbuf := buf } ∧ (buf = s.rxbuf ∨ buf = s.rxbuf.tail) := by
  unfold saRecv
  split
  · exact ⟨_, rfl, .inr rfl⟩
  all_goals exact ⟨s.rxbuf, rfl, .inl rfl⟩

/-- When SA.RECV answers a byte it was the head, and there was no receive error (R163). -/
theorem recvResult_byte {s : State} {b : Byte} (h : recvResult s = .byte b) :
    s.rxErr = false ∧ ∃ rest, s.rxbuf = b :: rest ∧ saRecv s = { s with rxbuf := rest } := by
  have hr := h
  unfold recvResult at h
  split at h
  · cases h
  · rename_i he
    split at h
    · rename_i c rest hb
      cases h
      exact ⟨by simpa using he, rest, hb, by simp [saRecv, hr, hb]⟩
    · split at h <;> cases h

/-- T5's last action: the deadline starts, or the index advances (R126). -/
theorem afterSend_cases (s : State) :
    (s.txidx.toNat + 1 = s.txlen.toNat ∧ afterSend s = { s with timer := s.params.respTicks, teState := .await }) ∨
    (s.txidx.toNat + 1 ≠ s.txlen.toNat ∧ afterSend s = { s with txidx := s.txidx + 1 }) := by
  by_cases h : s.txidx.toNat + 1 = s.txlen.toNat
  · exact .inl ⟨h, by simp [afterSend, h]⟩
  · exact .inr ⟨h, by simp [afterSend, h]⟩

/-- T7's last action: the response is complete, or the index advances (R128). -/
theorem afterStore_cases (s : State) :
    (s.rxidx.toNat + 1 = s.explen.toNat ∧ afterStore s = { s with rxidx := s.explen, teState := .decode }) ∨
    (s.rxidx.toNat + 1 ≠ s.explen.toNat ∧ afterStore s = { s with rxidx := s.rxidx + 1 }) := by
  by_cases h : s.rxidx.toNat + 1 = s.explen.toNat
  · exact .inl ⟨h, by simp [afterStore, h]⟩
  · exact .inr ⟨h, by simp [afterStore, h]⟩

/-- Judging a response completes a READ with its data, completes a WRITE, or fails the attempt (R131, R132). -/
theorem judge_cases (op : Opcode) (bytes : List Byte) (s : State) :
    (∃ st v, dec op bytes = .okRead st v ∧ judge op bytes s = complete .read st { s with rdata := v }) ∨
    (∃ st, dec op bytes = .okWrite st ∧ judge op bytes s = complete .write st s) ∨
    (∃ k, dec op bytes = .err k ∧ judge op bytes s = attemptFailed op s) := by
  cases h : dec op bytes with
  | okRead st v => exact .inl ⟨st, v, rfl, by simp [judge, h]⟩
  | okWrite st => exact .inr (.inl ⟨st, rfl, by simp [judge, h]⟩)
  | err k => exact .inr (.inr ⟨k, rfl, by simp [judge, h]⟩)

/-- Acceptance latches the request on an open channel, and completes with E_NOT_OPEN on a closed one (R123, R124). -/
theorem acceptRequest_cases (op : Opcode) (addr : AddrIn) (data : Word) (s : State) :
    (s.chOpen = true ∧ acceptRequest op addr data s =
      { s with cmd := none, reqOp := opTag op, reqAddr := trunc32 addr, reqData := data, attempt := 1,
               teState := .prep }) ∨
    (s.chOpen = false ∧ acceptRequest op addr data s = complete op Config.eNotOpen (withdraw s)) := by
  cases h : s.chOpen
  · exact .inr ⟨rfl, by simp [acceptRequest, h]⟩
  · exact .inl ⟨rfl, by simp [acceptRequest, h, withdraw]⟩

/-! RX_ERR through the operations that leave it alone (R23). -/

@[simp] theorem saSend_rxErr (b : Byte) (s : State) : (saSend b s).rxErr = s.rxErr := by
  obtain ⟨_, _, h⟩ := saSend_eq b s; rw [h]
@[simp] theorem saRecv_rxErr (s : State) : (saRecv s).rxErr = s.rxErr := by
  obtain ⟨_, h, _⟩ := saRecv_eq s; rw [h]
@[simp] theorem afterSend_rxErr (s : State) : (afterSend s).rxErr = s.rxErr := by
  rcases afterSend_cases s with ⟨_, h⟩ | ⟨_, h⟩ <;> rw [h]
@[simp] theorem judge_rxErr (op : Opcode) (bytes : List Byte) (s : State) : (judge op bytes s).rxErr = s.rxErr := by
  rcases judge_cases op bytes s with ⟨_, _, _, h⟩ | ⟨_, _, h⟩ | ⟨_, _, h⟩ <;> rw [h]
  · rfl
  · rfl
  · exact attemptFailed_rxErr op s
@[simp] theorem acceptRequest_rxErr (op : Opcode) (addr : AddrIn) (data : Word) (s : State) :
    (acceptRequest op addr data s).rxErr = s.rxErr := by
  rcases acceptRequest_cases op addr data s with ⟨_, h⟩ | ⟨_, h⟩ <;> rw [h] <;> rfl

/-- LineRx appends the byte or changes nothing (R165). -/
theorem lineRx_cases (b : Byte) (s : State) :
    (rxAccepts s = true ∧ lineRx b s = { s with rxbuf := s.rxbuf ++ [b] }) ∨
    (rxAccepts s = false ∧ lineRx b s = s) := by
  cases h : rxAccepts s
  · exact .inr ⟨rfl, by simp [lineRx, h]⟩
  · exact .inl ⟨rfl, by simp [lineRx, h]⟩

/-- Tick counts down in AWAIT or changes nothing (R196). -/
theorem tick_cases (s : State) :
    (s.teState = .await ∧ 0 < s.timer ∧ tick s = { s with timer := s.timer - 1 }) ∨
    (¬ (s.teState = .await ∧ 0 < s.timer) ∧ tick s = s) := by
  by_cases h : s.teState = .await ∧ 0 < s.timer
  · exact .inl ⟨h.1, h.2, by simp [tick, h]⟩
  · exact .inr ⟨h, by simp [tick, h]⟩

/-- A clamped index is inside its range (R10). -/
theorem clampIndex_le (limit x : BitVec 4) : (clampIndex limit x).toNat ≤ limit.toNat := by
  unfold clampIndex
  split
  · rename_i h
    simpa [BitVec.le_def] using h
  · exact Nat.le_refl _

/-- A byte of TXBUF after T4: the frame's byte, or what it was past the frame (R18, R125). -/
@[simp] theorem writeFrame_get (buf : Vector Byte 12) (f : List Byte) (i : Nat) (h : i < 12) :
    (writeFrame buf f)[i] = f.getD i buf[i] := by
  simp [writeFrame]

end Sys2Proof.Machine
end

