-- ==== Sys2Proof/Laws/PerInstr.lean ====
section
/-! SUPPORT. Statements made per instruction. RoundTrip: decoding what the encoder writes for an instruction gives the
instruction back, every operand at every value (rows without an encoding have nothing to decode: R78). -/

namespace Sys2Proof

open Machine

theorem cmdOp_commandWord (op : BitVec 2) (a : AddrIn) (d : Word) : cmdOp (commandWord op a d) = op := by
  simp only [cmdOp, commandWord]
  rw [extract_append_high _ _ 96 (by omega), extract_append_high _ _ (96 - 32) (by omega)]
  exact extract_all op

theorem cmdA_commandWord (op : BitVec 2) (a : AddrIn) (d : Word) : cmdA (commandWord op a d) = a := by
  simp only [cmdA, commandWord]
  rw [extract_append_high _ _ 32 (by omega), extract_append_low _ _ (32 - 32) (by omega)]
  exact extract_all a

theorem cmdD_commandWord (op : BitVec 2) (a : AddrIn) (d : Word) : cmdD (commandWord op a d) = d := by
  simp only [cmdD, commandWord]
  rw [extract_append_low _ _ 0 (by omega)]
  exact extract_all d

/-- A command word decodes by its three fields (R74). -/
theorem decodeCommand_commandWord (op : BitVec 2) (a : AddrIn) (d : Word) :
    decodeCommand (commandWord op a d) =
      if op = 1 then .read a d else if op = 2 then .write a d else if op = 3 then .connect (.token a) d
      else .cmdReserved a d := by
  simp only [decodeCommand, cmdOp_commandWord, cmdA_commandWord, cmdD_commandWord]

theorem decodeCommand_reserved (a : AddrIn) (d : Word) : decodeCommand (commandWord 0#2 a d) = .cmdReserved a d :=
  decodeCommand_commandWord 0 a d
theorem decodeCommand_read (a : AddrIn) (d : Word) : decodeCommand (commandWord 1#2 a d) = .read a d :=
  decodeCommand_commandWord 1 a d
theorem decodeCommand_write (a : AddrIn) (d : Word) : decodeCommand (commandWord 2#2 a d) = .write a d :=
  decodeCommand_commandWord 2 a d
theorem decodeCommand_connect (a : AddrIn) (d : Word) : decodeCommand (commandWord 3#2 a d) = .connect (.token a) d :=
  decodeCommand_commandWord 3 a d

/-- CONNECT decodes from the interface with its identifier, token or wide (R74). -/
@[simp] theorem decodeInterface_connectCommand (dev : DevId) (baud : Word) :
    decodeInterface (connectCommand dev baud) = .connect dev baud := by
  cases dev
  · exact decodeCommand_connect _ _
  · rfl

end Sys2Proof

namespace Sys2Proof.Laws.RoundTrip

open Sys2Proof.Machine

/-- Decoding an encoded well-formed instruction gives it back. -/
def Statement (i : Instr) : Prop := i.wf = true → ∀ c, encode i = some c → decode c = .ok i

theorem reqRead (addr : Word) (crc : Byte) : Statement (.reqRead addr crc) := by
  intro _ c h
  cases h
  simp [decode, decodeFrame, checkMarkers, be32, joinBytes_be32]

theorem reqWrite (addr data : Word) (crc : Byte) : Statement (.reqWrite addr data crc) := by
  intro _ c h
  cases h
  simp [decode, decodeFrame, checkMarkers, be32, joinBytes_be32]

theorem rspRead (status : BitVec 2) (data : Word) (crc : Byte) : Statement (.rspRead status data crc) := by
  intro _ c h
  cases h
  simp [decode, decodeFrame, checkMarkers, checkStatus, be32, joinBytes_be32]

theorem rspWrite (status : BitVec 2) (crc : Byte) : Statement (.rspWrite status crc) := by
  intro _ c h
  cases h
  simp [decode, decodeFrame, checkMarkers, checkStatus]

theorem read (addr : AddrIn) (ignored : Word) : Statement (.read addr ignored) := by
  intro _ c h
  cases h
  simp [decode, decodeInterface, decodeCommand_commandWord]

theorem write (addr : AddrIn) (data : Word) : Statement (.write addr data) := by
  intro _ c h
  cases h
  simp [decode, decodeInterface, decodeCommand_commandWord]

theorem connect (dev : DevId) (baud : Word) : Statement (.connect dev baud) := by
  intro _ c h
  cases h
  simp [decode, decodeInterface_connectCommand]

theorem cmdReserved (a : AddrIn) (d : Word) : Statement (.cmdReserved a d) := by
  intro _ c h
  cases h
  simp [decode, decodeInterface, decodeCommand_commandWord]

theorem crc8 (bytes : List Byte) : Statement (.crc8 bytes) := by intro _ _ h; cases h
theorem encRead (addr : Word) : Statement (.encRead addr) := by intro _ _ h; cases h
theorem encWrite (addr data : Word) : Statement (.encWrite addr data) := by intro _ _ h; cases h
theorem enc (op : Byte) (addr data : Word) : Statement (.enc op addr data) := by intro _ _ h; cases h
theorem dec (op : Byte) (bytes : List Byte) : Statement (.dec op bytes) := by intro _ _ h; cases h
theorem decRead (bytes : List Byte) : Statement (.decRead bytes) := by intro _ _ h; cases h
theorem decWrite (bytes : List Byte) : Statement (.decWrite bytes) := by intro _ _ h; cases h
theorem decReq (bytes : List Byte) : Statement (.decReq bytes) := by intro _ _ h; cases h
theorem saOpen (dev : DevId) (baud : Word) : Statement (.saOpen dev baud) := by intro _ _ h; cases h
theorem saSend (b : Byte) : Statement (.saSend b) := by intro _ _ h; cases h
theorem saRecv : Statement .saRecv := by intro _ _ h; cases h
theorem saFlush : Statement .saFlush := by intro _ _ h; cases h
theorem t1 : Statement .t1 := by intro _ _ h; cases h
theorem t2 : Statement .t2 := by intro _ _ h; cases h
theorem t3 : Statement .t3 := by intro _ _ h; cases h
theorem t4 : Statement .t4 := by intro _ _ h; cases h
theorem t5 : Statement .t5 := by intro _ _ h; cases h
theorem t6 : Statement .t6 := by intro _ _ h; cases h
theorem t7 : Statement .t7 := by intro _ _ h; cases h
theorem t8 : Statement .t8 := by intro _ _ h; cases h
theorem t9 : Statement .t9 := by intro _ _ h; cases h
theorem t10 : Statement .t10 := by intro _ _ h; cases h
theorem t11 : Statement .t11 := by intro _ _ h; cases h
theorem reset : Statement .reset := by intro _ _ h; cases h

end Sys2Proof.Laws.RoundTrip
end

