-- ==== Sys2Proof/Laws/Step.lean ====
section
/-! SUPPORT. What one step can do, said once: an equation for each turn, and the inversion lemma of a step that answers next. -/

namespace Sys2Proof.Machine

/-- On the engine's turn the step runs the enabled step, or waits (R139). -/
theorem step_engine {s : State} (h : engineTurn s) :
    step s = match enabledStep s with
      | some i => exec i (turnTaken s)
      | none => .next (turnTaken s) := by
  have hn : nextAction s = (enabledStep s, turnTaken s) := by
    rcases h with h | ⟨rest, h⟩
    · have e : turnTaken s = s := by
        have : s.schedule.tail = s.schedule := by simp [h]
        simp only [turnTaken, this]
      simp only [nextAction, h, e]
    · simp [nextAction, h, turnTaken]
  unfold step
  rw [hn]
  cases enabledStep s <;> rfl

theorem step_lineRx {s : State} {b : Byte} {rest : List Turn} (h : s.schedule = .lineRx b :: rest) :
    step s = .next (lineRx b (turnTaken s)) := by
  simp [step, nextAction, h, turnTaken]

theorem step_lineRxErr {s : State} {rest : List Turn} (h : s.schedule = .lineRxErr :: rest) :
    step s = .next (lineRxErr (turnTaken s)) := by
  simp [step, nextAction, h, turnTaken]

theorem step_tick {s : State} {rest : List Turn} (h : s.schedule = .tick :: rest) :
    step s = .next (tick (turnTaken s)) := by
  simp [step, nextAction, h, turnTaken]

theorem step_reset {s : State} {rest : List Turn} (h : s.schedule = .reset :: rest) :
    step s = .next (resetEvent (turnTaken s)) := by
  simp [step, nextAction, h, turnTaken, exec, execReset]

theorem step_present {s : State} {w : Command} {rest : List Turn} (h : s.schedule = .present w :: rest) :
    step s = .next (present w (turnTaken s)) := by
  simp [step, nextAction, h, turnTaken]

theorem step_withdraw {s : State} {rest : List Turn} (h : s.schedule = .withdraw :: rest) :
    step s = .next (withdraw (turnTaken s)) := by
  simp [step, nextAction, h, turnTaken]

/-- Every step is the engine's, or one of the six environment events and the reset (R7, R139). -/
theorem step_turns (s : State) :
    engineTurn s ∨
    (∃ b, step s = .next (lineRx b (turnTaken s))) ∨ step s = .next (lineRxErr (turnTaken s)) ∨
    step s = .next (tick (turnTaken s)) ∨ (resetTurn s ∧ step s = .next (resetEvent (turnTaken s))) ∨
    (∃ w, step s = .next (present w (turnTaken s))) ∨ step s = .next (withdraw (turnTaken s)) := by
  match h : s.schedule with
  | [] => exact .inl (.inl h)
  | .engine :: rest => exact .inl (.inr ⟨rest, h⟩)
  | .lineRx b :: rest => exact .inr (.inl ⟨b, step_lineRx h⟩)
  | .lineRxErr :: rest => exact .inr (.inr (.inl (step_lineRxErr h)))
  | .tick :: rest => exact .inr (.inr (.inr (.inl (step_tick h))))
  | .reset :: rest => exact .inr (.inr (.inr (.inr (.inl ⟨⟨rest, h⟩, step_reset h⟩))))
  | .present w :: rest => exact .inr (.inr (.inr (.inr (.inr (.inl ⟨w, step_present h⟩)))))
  | .withdraw :: rest => exact .inr (.inr (.inr (.inr (.inr (.inr (step_withdraw h))))))

/-- What the engine can do in its turn (R139): the rows of the transition relation, as the states they lead to. -/
inductive EngineMove (s : State) : State → Prop where
  /-- Nothing is presented, or the reserved word, or AWAIT has nothing to take: the engine waits. -/
  | wait (h : s.teState = .idle ∨ s.teState = .await ∧ recvResult s = .wait) : EngineMove s s
  /-- T1. -/
  | connect (dev : DevId) (baud : Word) (h : s.teState = .idle) (hp : presented s = some (.connect dev baud)) :
      EngineMove s (acceptConnect dev baud s)
  /-- T2, T3. -/
  | accept (op : Opcode) (addr : AddrIn) (data : Word) (h : s.teState = .idle)
      (hp : (op = .read ∧ data = 0 ∧ ∃ x, presented s = some (.read addr x)) ∨
        op = .write ∧ presented s = some (.write addr data)) :
      EngineMove s (acceptRequest op addr data s)
  /-- T4. -/
  | load (op : Opcode) (h : s.teState = .prep) (ho : opOfTag s.reqOp = some op) :
      EngineMove s (loadRequest op (enc op s.reqAddr s.reqData) s)
  /-- T5. -/
  | sent (b : Byte) (h : s.teState = .tx) (hr : sendResult s = true) (hb : nextTxByte s = some b) :
      EngineMove s (afterSend (saSend b s))
  /-- T6. -/
  | sendFailed (op : Opcode) (b : Byte) (h : s.teState = .tx) (hr : sendResult s = false)
      (ho : opOfTag s.reqOp = some op) : EngineMove s (complete op Config.eTxFail (saSend b s))
  /-- T7. -/
  | stored (b : Byte) (rest : List Byte) (h : s.teState = .await) (he : s.rxErr = false) (hb : s.rxbuf = b :: rest)
      (hi : s.rxidx.toNat < 9) :
      EngineMove s (afterStore { s with rxbuf := rest, rxfrm := s.rxfrm.set s.rxidx.toNat b hi })
  /-- T8, T9. -/
  | waitFailed (op : Opcode) (h : s.teState = .await) (hr : recvResult s = .error ∨ recvResult s = .timeout)
      (ho : opOfTag s.reqOp = some op) : EngineMove s (attemptFailed op s)
  /-- T10, T11. -/
  | judged (op : Opcode) (h : s.teState = .decode) (ho : opOfTag s.reqOp = some op) :
      EngineMove s (judge op (collected s) s)

/-- The enabled step, run, is one of those moves. -/
theorem exec_enabled_move {s t : State} {i : Instr} (hi : enabledStep s = some i) (h : exec i s = .next t) :
    EngineMove s t := by
  unfold enabledStep at hi
  cases hs : s.teState with
  | idle =>
    rw [hs] at hi
    obtain ⟨w, hw, rfl⟩ := Option.map_eq_some_iff.mp hi
    have hp : presented s = some (decodeInterface w) := by simp [presented, hw]
    cases hd : decodeInterface w <;> simp only [commandStep, hd] at h
    case read a x =>
      simp only [exec, execT2, hs, hp, hd] at h
      cases h; exact .accept .read a 0 hs (.inl ⟨rfl, rfl, x, hp.trans (congrArg some hd)⟩)
    case write a d =>
      simp only [exec, execT3, hs, hp, hd] at h
      cases h; exact .accept .write a d hs (.inr ⟨rfl, hp.trans (congrArg some hd)⟩)
    case connect v b =>
      simp only [exec, execT1, hs, hp, hd] at h
      cases h; exact .connect v b hs (hp.trans (congrArg some hd))
    case cmdReserved a d =>
      cases h; exact .wait (.inl hs)
    all_goals
      exfalso
      cases w with
      | wideConnect name baud => cases hd
      | word w =>
        simp only [decodeInterface] at hd
        unfold decodeCommand at hd
        (repeat' split at hd) <;> cases hd
  | prep =>
    rw [hs] at hi
    cases hi
    simp only [exec, execT4, hs, if_true] at h
    obtain ⟨op, ho, hk⟩ := withLatchedOp_next h
    cases hk; exact .load op hs ho
  | tx =>
    rw [hs] at hi
    by_cases hr : sendResult s = true
    · simp only [hr, if_true] at hi
      cases hi
      simp only [exec, execT5, hs, hr, and_self, if_true] at h
      split at h
      · rename_i b hb; cases h; exact .sent b hs hr hb
      · cases h
    · have hr : sendResult s = false := by simpa using hr
      simp only [hr, Bool.false_eq_true, if_false] at hi
      cases hi
      simp only [exec, execT6, hs, hr, and_self, if_true] at h
      split at h
      · rename_i b hb
        obtain ⟨op, ho, hk⟩ := withLatchedOp_next h
        cases hk; exact .sendFailed op b hs hr ho
      · cases h
  | await =>
    rw [hs] at hi
    simp only [awaitStep] at hi
    cases hr : recvResult s with
    | byte b =>
      rw [hr] at hi
      cases hi
      simp only [exec, execT7, hs, hr] at h
      obtain ⟨he, rest, hb, hv⟩ := recvResult_byte hr
      rw [hv] at h
      unfold storeByte at h
      split at h
      · rename_i hx; cases h; exact .stored b rest hs he hb hx
      · cases h
    | error =>
      rw [hr] at hi
      cases hi
      simp only [exec, execT8, hs, hr] at h
      obtain ⟨op, ho, hk⟩ := withLatchedOp_next h
      cases hk; exact .waitFailed op hs (.inl hr) ho
    | timeout =>
      rw [hr] at hi
      cases hi
      simp only [exec, execT9, hs, hr] at h
      obtain ⟨op, ho, hk⟩ := withLatchedOp_next h
      cases hk; exact .waitFailed op hs (.inr hr) ho
    | wait => rw [hr] at hi; cases hi
  | decode =>
    rw [hs] at hi
    have key : ∃ op, opOfTag s.reqOp = some op ∧ t = judge op (collected s) s := by
      by_cases hc : collectedOk s = true
      · simp only [hc, if_true] at hi
        cases hi
        simp only [exec, execT10, hs, if_true] at h
        obtain ⟨op, ho, hk⟩ := withLatchedOp_next h
        split at hk
        · cases hk; exact ⟨op, ho, rfl⟩
        · cases hk
      · simp only [hc] at hi
        cases hi
        simp only [exec, execT11, hs, if_true] at h
        obtain ⟨op, ho, hk⟩ := withLatchedOp_next h
        split at hk
        · cases hk
        · cases hk; exact ⟨op, ho, rfl⟩
    obtain ⟨op, ho, rfl⟩ := key
    exact .judged op hs ho

/-- A step on the engine's turn is one of those moves. -/
theorem engine_move {s t : State} (he : engineTurn s) (h : step s = .next t) : EngineMove (turnTaken s) t := by
  rw [step_engine he] at h
  have hn : enabledStep (turnTaken s) = enabledStep s := rfl
  cases hi : enabledStep s with
  | some i =>
    rw [hi] at h
    exact exec_enabled_move (hn.trans hi) h
  | none =>
    rw [hi] at h
    cases h
    refine .wait ?_
    simp only [turnTaken_teState]
    unfold enabledStep at hi
    cases hs : s.teState with
    | idle => exact .inl rfl
    | await =>
      rw [hs] at hi
      refine .inr ⟨rfl, ?_⟩
      have hr : recvResult (turnTaken s) = recvResult s := rfl
      rw [hr]
      simp only [awaitStep] at hi
      cases h : recvResult s with
      | wait => rfl
      | byte b => rw [h] at hi; cases hi
      | error => rw [h] at hi; cases hi
      | timeout => rw [h] at hi; cases hi
    | prep => rw [hs] at hi; cases hi
    | tx => rw [hs] at hi; cases hr : sendResult s <;> rw [hr] at hi <;> cases hi
    | decode => rw [hs] at hi; cases hr : collectedOk s <;> rw [hr] at hi <;> cases hi

/-- Every step that is not a reset event: a move of the engine in its turn, or an event of the environment, which touches
the receive buffer, the receive error, the timer and the command interface only, and keeps the buffer's depth. -/
theorem step_cases {s t : State} (h : step s = .next t) (hr : ¬ resetTurn s) :
    (engineTurn s ∧ EngineMove (turnTaken s) t) ∨
    (∃ buf ticks err w, t = { turnTaken s with rxbuf := buf, rxErr := err, timer := ticks, cmd := w } ∧
      (ticks = s.timer ∨ s.teState = .await ∧ ticks + 1 = s.timer) ∧
      (∀ d, s.params.rxDepth = some d → s.rxbuf.length ≤ d → buf.length ≤ d)) := by
  rcases step_turns s with he | ⟨b, h1⟩ | h1 | h1 | ⟨hh, h1⟩ | ⟨w, h1⟩ | h1
  · exact .inl ⟨he, engine_move he h⟩
  · right
    rw [h1] at h
    cases h
    rcases lineRx_cases b (turnTaken s) with ⟨h2, h⟩ | ⟨_, h⟩ <;> rw [h]
    · refine ⟨_, s.timer, s.rxErr, s.cmd, rfl, .inl rfl, ?_⟩
      intro d hd hl
      simp only [rxAccepts, rxRoom, turnTaken_params, hd, turnTaken_rxbuf, Bool.and_eq_true] at h2
      have := of_decide_eq_true h2.2
      simp
      omega
    · exact ⟨s.rxbuf, s.timer, s.rxErr, s.cmd, rfl, .inl rfl, fun _ _ h => h⟩
  · right
    rw [h1] at h
    cases h
    exact ⟨s.rxbuf, s.timer, _, s.cmd, rfl, .inl rfl, fun _ _ h => h⟩
  · right
    rw [h1] at h
    cases h
    rcases tick_cases (turnTaken s) with ⟨h1, h2, h⟩ | ⟨_, h⟩ <;> rw [h]
    · exact ⟨s.rxbuf, s.timer - 1, s.rxErr, s.cmd, rfl, .inr ⟨h1, by simp at h2; omega⟩, fun _ _ h => h⟩
    · exact ⟨s.rxbuf, s.timer, s.rxErr, s.cmd, rfl, .inl rfl, fun _ _ h => h⟩
  · exact absurd hh hr
  · right
    rw [h1] at h
    cases h
    exact ⟨s.rxbuf, s.timer, s.rxErr, _, rfl, .inl rfl, fun _ _ h => h⟩
  · right
    rw [h1] at h
    cases h
    exact ⟨s.rxbuf, s.timer, s.rxErr, _, rfl, .inl rfl, fun _ _ h => h⟩

end Sys2Proof.Machine
end

