-- ==== Sys2Proof/Tests/Slice0.lean ====
section
/-! SUPPORT. Our own tests: the ill-formed terms the check refuses, words written out from the spec decoded, single steps
against the vectors of spec/95_test_vectors.md (named in each test), and for every statement with hypotheses a concrete
state and operands that meet them. -/

namespace Sys2Proof.Tests

set_option Elab.async false

open Sys2Proof Sys2Proof.Machine

/-- The outcome is a next state of which `p` holds. -/
def nextWith (o : Out) (p : State → Bool) : Bool :=
  match o with
  | .next t => p t
  | .fault _ => false
  | .refused _ => false

/-! ## Small states -/

/-- After a CONNECT that succeeded: IDLE, the channel open. -/
def idle : State := { State.reset with chOpen := true }

/-- A request latched, PREP. -/
def prep (op : Byte) (a d : Word) : State :=
  { idle with teState := .prep, reqOp := op, reqAddr := a, reqData := d, attempt := 1 }

/-- TX with the frame E3 (95_test_vectors 2.2) and TXIDX = k; the line answers the next send with `ok`. -/
def sending (k : BitVec 4) (ok : Bool) : State :=
  { prep 0x01 0x1000 0 with
      teState := .tx, txlen := 8, explen := 9, txidx := k, rxidx := 0,
      txbuf := #v[0xA5, 0x01, 0x00, 0x00, 0x10, 0x00, 0x6F, 0x5A, 0, 0, 0, 0], sendAnswers := [ok] }

/-- AWAIT of a WRITE's response, RXIDX = k bytes collected. -/
def awaiting (k : BitVec 4) (buf : List Byte) (err : Bool) (ticks attempt : Nat) : State :=
  { prep 0x02 0x2000 1 with
      teState := .await, txlen := 12, explen := 5, rxidx := k, rxbuf := buf, rxErr := err,
      timer := ticks, attempt := attempt }

/-- DECODE of a WRITE's response. -/
def decodingWrite (st crc : Byte) (attempt : Nat) : State :=
  { prep 0x02 0x2000 1 with
      teState := .decode, txlen := 12, explen := 5, rxidx := 5, attempt := attempt,
      rdata := 0x0BADC0DE, rxfrm := #v[0xA5, 0x02, st, crc, 0x5A, 0, 0, 0, 0] }

/-- DECODE of a READ's response: status, data and CRC byte as given. -/
def decodingRead (st d0 d1 d2 d3 crc : Byte) (attempt : Nat) : State :=
  { prep 0x01 0x1000 0 with
      teState := .decode, txlen := 8, explen := 9, rxidx := 9, attempt := attempt,
      rdata := 0x0BADC0DE, rxfrm := #v[0xA5, 0x01, st, d0, d1, d2, d3, crc, 0x5A] }

/-! ## WellFormed -/

theorem test_wf_refuses_reqRead : (Instr.reqRead 0x1000 0x6E).wf = false := by decide +kernel
theorem test_wf_refuses_reqWrite : (Instr.reqWrite 0x1000 0xDEADBEEF 0xC7).wf = false := by decide +kernel
theorem test_wf_refuses_rspRead : (Instr.rspRead 0 0xDEACBEEF 0x62).wf = false := by decide +kernel
theorem test_wf_refuses_rspWrite : (Instr.rspWrite 0 0xA3).wf = false := by decide +kernel
theorem test_wf_refuses_enc : (Instr.enc 0x00 0 0).wf = false := by decide
theorem test_wf_refuses_connect : (Instr.connect (.wide [0x64, 0x65, 0x76, 0x41]) 9600).wf = false := by decide
theorem test_wf_refuses_saOpen : (Instr.saOpen (.wide []) 9600).wf = false := by decide
theorem test_wf_refuses_dec : (Instr.dec 0x03 []).wf = false := by decide
/-- E3, W3, R1, V1 of 95_test_vectors are well formed. -/
theorem test_wf_accepts : (Instr.reqRead 0x1000 0x6F).wf = true ∧ (Instr.reqWrite 0x1000 0xDEADBEEF 0xC6).wf = true ∧
    (Instr.rspRead 0 0xDEADBEEF 0x62).wf = true ∧ (Instr.rspWrite 0 0xA2).wf = true := by decide +kernel

/-! ## Decoding: the words of R62 to R65, R74 and the vectors -/

/-- E4 (R62). -/
theorem test_decode_reqRead :
    decode (.frame [0xA5, 0x01, 0x12, 0x34, 0x56, 0x78, 0x24, 0x5A]) = .ok (.reqRead 0x12345678 0x24) := by rfl
/-- W4 (R63). -/
theorem test_decode_reqWrite :
    decode (.frame [0xA5, 0x02, 0x12, 0x34, 0x56, 0x78, 0x9A, 0xBC, 0xDE, 0xF0, 0x75, 0x5A]) =
      .ok (.reqWrite 0x12345678 0x9ABCDEF0 0x75) := by rfl
/-- R6 (R64). -/
theorem test_decode_rspRead :
    decode (.frame [0xA5, 0x01, 0x01, 0x11, 0x22, 0x33, 0x44, 0x33, 0x5A]) = .ok (.rspRead 1 0x11223344 0x33) := by rfl
/-- V4 (R65). -/
theorem test_decode_rspWrite : decode (.frame [0xA5, 0x02, 0x03, 0xAB, 0x5A]) = .ok (.rspWrite 3 0xAB) := by rfl
/-- 95_test_vectors 2.9, second row. -/
theorem test_decode_read :
    decode (.command (.word 0x1FFFFFFFF0000100012345678)) = .ok (.read 0xFFFFFFFF00001000 0x12345678) := by rfl
/-- 95_test_vectors 2.9, third row. -/
theorem test_decode_write :
    decode (.command (.word 0x20000000000001000DEADBEEF)) = .ok (.write 0x1000 0xDEADBEEF) := by rfl
/-- 95_test_vectors 2.9, fourth row. -/
theorem test_decode_connect :
    decode (.command (.word 0x300000000000000010001C200)) = .ok (.connect (.token 1) 115200) := by rfl
/-- R74: an identifier wider than 64 bits, the 19 bytes of the vector A-b, travels beside the word. -/
def wideName : List Byte :=
  [0x2F, 0x64, 0x65, 0x76, 0x2F, 0x64, 0x6F, 0x65, 0x73, 0x2D, 0x6E, 0x6F, 0x74, 0x2D, 0x65, 0x78, 0x69, 0x73, 0x74]
theorem test_decode_wide_connect :
    decode (.command (.wideConnect wideName 115200)) = .ok (.connect (.wide wideName) 115200) := by rfl
/-- 95_test_vectors 2.9, last row. -/
theorem test_decode_reserved : decode (.command (.word 0x0000000000000000200000003)) = .ok (.cmdReserved 2 3) := by rfl

theorem test_reject_length : decode (.frame [0xA5, 0x01, 0x00, 0xDE, 0xAD, 0xBE]) = .error (.badLength 6) := by rfl
/-- V12. -/
theorem test_reject_end : decode (.frame [0xA5, 0x02, 0x00, 0xA2, 0x5B]) = .error .badEnd := by rfl
/-- V10. -/
theorem test_reject_start : decode (.frame [0xA4, 0x02, 0x00, 0xC9, 0x5A]) = .error .badStart := by rfl
/-- V8: a READ tag in five bytes. -/
theorem test_reject_tag : decode (.frame [0xA5, 0x01, 0x00, 0x9D, 0x5A]) = .error (.badTag 0x01) := by rfl
/-- V6. -/
theorem test_reject_status : decode (.frame [0xA5, 0x02, 0x10, 0xD2, 0x5A]) = .error (.reservedStatus 0x10) := by rfl

/-- The numbers of opcode_table.json: byte 0 is the most significant; 98 bits may be given as 104. -/
theorem test_table_words :
    decodeTableWord 64 0xA50100001000005A = some (.reqRead 0x1000 0) ∧
    decodeTableWord 96 0xA5020000100000000001005A = some (.reqWrite 0x1000 1 0) ∧
    decodeTableWord 72 0xA5010000000001005A = some (.rspRead 0 1 0) ∧
    decodeTableWord 40 0xA50202005A = some (.rspWrite 2 0) ∧
    decodeTableWord 98 0x1000000000000000000000000 = some (.read 0 0) ∧
    decodeTableWord 104 0x1000000000000000000000000 = some (.read 0 0) ∧
    decodeTableWord 40 0xA50103005A = none := by decide

/-- The next step after withFetchWord runs the row's instruction: a command word, and a request frame in PREP. -/
theorem test_withFetchWord_command :
    step (State.reset.withFetchWord 104 0x2000000000000100000000001) =
      exec (.write 0x1000 1) (State.reset.withFetchWord 104 0x2000000000000100000000001) := by rfl
theorem test_withFetchWord_frame :
    step (State.reset.withFetchWord 64 0xA50100001000005A) =
      exec (.reqRead 0x1000 0) (State.reset.withFetchWord 64 0xA50100001000005A) := by rfl
/-- A response frame in DECODE: V1, judged. -/
theorem test_withFetchWord_response :
    nextWith (step (State.reset.withFetchWord 40 0xA50200A25A))
      (fun t => t.teState = .idle ∧ t.resStatus = 0 ∧ t.trace = [.doneWrite 0]) = true := by decide +kernel

/-! ## The Frame Codec -/

/-- 95_test_vectors 2.1. -/
theorem test_crc8 :
    nextWith (exec (.crc8 [0xA5, 0x02, 0x00, 0x00, 0x10, 0x00, 0xDE, 0xAD, 0xBE, 0xEF]) idle)
      (fun t => t.opResult = .byte 0xC6) = true := by decide +kernel
/-- E4. -/
theorem test_encRead :
    nextWith (exec (.encRead 0x12345678) idle)
      (fun t => t.opResult = .bytes [0xA5, 0x01, 0x12, 0x34, 0x56, 0x78, 0x24, 0x5A]) = true := by decide +kernel
/-- W4. -/
theorem test_encWrite :
    nextWith (exec (.encWrite 0x12345678 0x9ABCDEF0) idle)
      (fun t => t.opResult = .bytes
        [0xA5, 0x02, 0x12, 0x34, 0x56, 0x78, 0x9A, 0xBC, 0xDE, 0xF0, 0x75, 0x5A]) = true := by decide +kernel
/-- W6, with TXLENOF and EXPLEN of R95. -/
theorem test_enc :
    nextWith (exec (.enc 0x02 0x2000 1) idle)
      (fun t => t.opResult = .encoded
        [0xA5, 0x02, 0x00, 0x00, 0x20, 0x00, 0x00, 0x00, 0x00, 0x01, 0xAE, 0x5A] 12 5) = true := by decide +kernel
/-- X2: the checksum is looked at before the start marker. -/
theorem test_dec :
    nextWith (exec (.dec 0x02 [0xA4, 0x02, 0x00, 0xA2, 0x5A]) idle)
      (fun t => t.opResult = .decoded (.err .checksum)) = true := by decide +kernel
/-- X5: the start marker is looked at before the status. -/
theorem test_dec_order :
    nextWith (exec (.dec 0x02 [0xA4, 0x02, 0x80, 0x40, 0x5A]) idle)
      (fun t => t.opResult = .decoded (.err .badStart)) = true := by decide +kernel
/-- R7: data comes with an error status. -/
theorem test_decRead :
    nextWith (exec (.decRead [0xA5, 0x01, 0x02, 0xBA, 0xAD, 0xF0, 0x0D, 0x86, 0x5A]) idle)
      (fun t => t.opResult = .decoded (.okRead 0x02 0xBAADF00D)) = true := by decide +kernel
/-- R12: a valid check and the WRITE tag. -/
theorem test_decRead_opcode :
    nextWith (exec (.decRead [0xA5, 0x02, 0x00, 0x00, 0x00, 0x00, 0x00, 0xD3, 0x5A]) idle)
      (fun t => t.opResult = .decoded (.err .opcode)) = true := by decide +kernel
/-- V3. -/
theorem test_decWrite :
    nextWith (exec (.decWrite [0xA5, 0x02, 0x02, 0xAC, 0x5A]) idle)
      (fun t => t.opResult = .decoded (.okWrite 0x02)) = true := by decide +kernel
/-- V7: a peer cannot inject a transport code. -/
theorem test_decWrite_status :
    nextWith (exec (.decWrite [0xA5, 0x02, 0xFF, 0x51, 0x5A]) idle)
      (fun t => t.opResult = .decoded (.err .badStatus)) = true := by decide +kernel
/-- Q6. -/
theorem test_decReq :
    nextWith (exec (.decReq [0xA5, 0x02, 0x00, 0x00, 0x10, 0x00, 0xDE, 0xAD, 0xBE, 0xEF, 0xC6, 0x5A]) idle)
      (fun t => t.opResult = .request (.okWrite 0x1000 0xDEADBEEF)) = true := by decide +kernel
/-- Calculated from R96 and R100: a REQ.WRITE with two bits of its OP byte flipped reads as a REQ.READ of its first eight
bytes, so the third item of R102 does not hold of DECREQ (NOTES.md, spec findings). -/
theorem test_decReq_two_flips :
    decReq (encWrite 0x1000 0x6F5A0000) = .okWrite 0x1000 0x6F5A0000 ∧
    decReq (flipBit (flipBit (encWrite 0x1000 0x6F5A0000) 1 0) 1 1) = .okRead 0x1000 := by decide +kernel

/-! ## The Serial Adapter and the line -/

/-- A-d. -/
theorem test_saOpen :
    nextWith (exec (.saOpen (.token 2) 9600) { idle with rxbuf := [0x11], openAnswers := [true] })
      (fun t => t.chOpen ∧ t.cfgDev = .token 2 ∧ t.cfgBaud = 9600 ∧ t.rxbuf = [] ∧ t.opResult = .answered true) = true := by
  decide
/-- A-c: a failed open closes the old channel and keeps its configuration. -/
theorem test_saOpen_fails :
    nextWith (exec (.saOpen (.token 2) 9600) { idle with
      cfgDev := .token 1, cfgBaud := 115200, rxbuf := [0x11], rxErr := true,
      openAnswers := [false] })
      (fun t => !t.chOpen ∧ t.cfgDev = .token 1 ∧ t.cfgBaud = 115200 ∧ t.rxbuf = [] ∧ !t.rxErr) = true := by decide
/-- A-e. -/
theorem test_saSend :
    nextWith (exec (.saSend 0xA5) { idle with sendAnswers := [true] })
      (fun t => t.trace = [.tx 0xA5] ∧ t.opResult = .answered true) = true := by decide
/-- A-f. -/
theorem test_saSend_fails :
    nextWith (exec (.saSend 0xA5) { idle with sendAnswers := [false] })
      (fun t => t.trace = [] ∧ t.opResult = .answered false) = true := by decide
/-- A-g. -/
theorem test_saRecv :
    nextWith (exec .saRecv { idle with rxbuf := [0xA5, 0x02] })
      (fun t => t.rxbuf = [0x02] ∧ t.opResult = .received (.byte 0xA5)) = true := by decide
/-- A-h: the error has priority over a waiting byte. -/
theorem test_saRecv_error :
    nextWith (exec .saRecv { idle with rxbuf := [0xA5], rxErr := true })
      (fun t => t.rxbuf = [0xA5] ∧ t.opResult = .received .error) = true := by decide
/-- A-k. -/
theorem test_saFlush :
    nextWith (exec .saFlush { idle with rxbuf := [0x00, 0xA2, 0x5A], rxErr := true })
      (fun t => t.rxbuf = [] ∧ !t.rxErr ∧ t.trace = [.flush]) = true := by decide
/-- A-l, A-m, A-n. -/
theorem test_lineRx :
    nextWith (step { idle with rxbuf := [0xA5], schedule := [.lineRx 0x02] }) (fun t => t.rxbuf = [0xA5, 0x02]) = true ∧
    nextWith (step { State.reset with schedule := [.lineRx 0x02] }) (fun t => t.rxbuf = []) = true ∧
    nextWith (step { idle with
      rxbuf := List.replicate 9 0, schedule := [.lineRx 0x77],
      params := { maxAttempts := 3, respTicks := 100, rxDepth := some 9 } })
      (fun t => t.rxbuf = List.replicate 9 0) = true := by decide
/-- A-o, A-p; and a flag set in TX, which the next step finds (R129): log entry 18. -/
theorem test_lineRxErr :
    nextWith (step { idle with schedule := [.lineRxErr] }) (fun t => t.rxErr) = true ∧
    nextWith (step { State.reset with schedule := [.lineRxErr] }) (fun t => !t.rxErr) = true ∧
    nextWith (step { sending 7 true with schedule := [.lineRxErr] })
      (fun t => t.rxErr ∧ nextWith (exec .t5 t) (fun u => u.rxErr ∧ u.teState = .await)) = true := by decide
/-- A-q, A-r, A-s. -/
theorem test_tick :
    nextWith (step { awaiting 0 [] false 3 1 with schedule := [.tick] }) (fun t => t.timer = 2) = true ∧
    nextWith (step { awaiting 0 [] false 0 1 with schedule := [.tick] }) (fun t => t.timer = 0) = true ∧
    nextWith (step { sending 0 true with timer := 5, schedule := [.tick] }) (fun t => t.timer = 5) = true := by decide

/-- The command interface (R121): a word is presented, and withdrawn. -/
theorem test_present_withdraw :
    nextWith (step { idle with schedule := [.present (.word 1)] }) (fun t => t.cmd = some (.word 1) ∧ t.schedule = []) = true ∧
    nextWith (step { idle with cmd := some (.word 1), schedule := [.withdraw] }) (fun t => t.cmd = none) = true := by decide

/-! ## Commands and engine steps -/

/-- T-b: bit 32 of the address is dropped. -/
theorem test_read :
    nextWith (exec (.read 0x0000000100001000 0xFFFFFFFF) idle)
      (fun t => t.teState = .prep ∧ t.reqOp = 0x01 ∧ t.reqAddr = 0x1000 ∧ t.reqData = 0 ∧ t.attempt = 1 ∧ t.trace = []) =
        true := by decide
/-- T-a. -/
theorem test_read_not_open :
    nextWith (exec (.read 0x1000 0) { State.reset with rdata := 0x77 })
      (fun t => t.teState = .idle ∧ t.resStatus = 0x10 ∧ t.trace = [.doneRead 0x10 0x77] ∧ t.attempt = 0) = true := by
  decide
/-- T-c. -/
theorem test_write :
    nextWith (exec (.write 0x2000 1) idle)
      (fun t => t.teState = .prep ∧ t.reqOp = 0x02 ∧ t.reqAddr = 0x2000 ∧ t.reqData = 1) = true := by decide
/-- P1, its first command. -/
theorem test_connect :
    nextWith (exec (.connect (.token 1) 115200) { State.reset with openAnswers := [true] })
      (fun t => t.chOpen ∧ t.resConn ∧ t.cfgBaud = 115200 ∧ t.trace = [.doneConnect true]) = true := by decide
/-- 95_test_vectors 2.9, last row. -/
theorem test_cmdReserved : exec (.cmdReserved 1 2) idle = .next idle := by rfl
/-- P2: T1 with a failing open. -/
theorem test_t1 :
    nextWith (exec .t1 { idle with cmd := some (.word (commandWord 3 9 115200)), openAnswers := [false] })
      (fun t => !t.chOpen ∧ !t.resConn ∧ t.cmd = none ∧ t.trace = [.doneConnect false]) = true := by decide
/-- CONNECT by a wide identifier, which goes to CFG_DEV (R74, R161). -/
theorem test_t1_wide :
    nextWith (exec .t1 { State.reset with cmd := some (.wideConnect wideName 115200), openAnswers := [true] })
      (fun t => t.chOpen ∧ t.resConn ∧ t.cfgDev = .wide wideName ∧ t.cmd = none) = true := by decide
/-- P9: T2 with the command of `read 0x20`. -/
theorem test_t2 :
    nextWith (exec .t2 { idle with cmd := some (.word 0x1000000000000002000000000) })
      (fun t => t.teState = .prep ∧ t.reqAddr = 0x20 ∧ t.cmd = none) = true := by decide
/-- P10: T3 on a closed channel. -/
theorem test_t3 :
    nextWith (exec .t3 { State.reset with cmd := some (.word (commandWord 2 0 0)) })
      (fun t => t.teState = .idle ∧ t.resStatus = 0x10 ∧ t.trace = [.doneWrite 0x10]) = true := by decide
/-- T-d. -/
theorem test_t4 :
    nextWith (exec .t4 { prep 0x02 0x2000 1 with rxbuf := [0x00, 0xA2, 0x5A], rxErr := true })
      (fun t => t.teState = .tx ∧ t.rxbuf = [] ∧ !t.rxErr ∧ t.txlen = 12 ∧ t.explen = 5 ∧ t.trace = [.flush] ∧
        t.txbuf = #v[0xA5, 0x02, 0x00, 0x00, 0x20, 0x00, 0x00, 0x00, 0x00, 0x01, 0xAE, 0x5A]) = true := by
  decide +kernel
/-- T-e. -/
theorem test_t5 :
    nextWith (exec .t5 (sending 6 true)) (fun t => t.teState = .tx ∧ t.txidx = 7 ∧ t.trace = [.tx 0x6F]) = true := by
  decide
/-- T-f. -/
theorem test_t5_last :
    nextWith (exec .t5 (sending 7 true))
      (fun t => t.teState = .await ∧ t.timer = 100 ∧ t.txidx = 7 ∧ t.trace = [.tx 0x5A]) = true := by decide
/-- T-g. -/
theorem test_t6 :
    nextWith (exec .t6 { sending 5 false with attempt := 2, rdata := 7 })
      (fun t => t.teState = .idle ∧ t.resStatus = 0x11 ∧ t.chOpen ∧ t.trace = [.doneRead 0x11 7]) = true := by decide
/-- T-h. -/
theorem test_t7 :
    nextWith (exec .t7 (awaiting 3 [0xA2, 0x5A] false 0 1))
      (fun t => t.teState = .await ∧ t.rxfrm[3] = 0xA2 ∧ t.rxidx = 4 ∧ t.rxbuf = [0x5A]) = true := by decide
/-- T-i. -/
theorem test_t7_last :
    nextWith (exec .t7 (awaiting 4 [0x5A, 0xFF] false 9 1))
      (fun t => t.teState = .decode ∧ t.rxfrm[4] = 0x5A ∧ t.rxidx = 5 ∧ t.rxbuf = [0xFF]) = true := by decide
/-- T-j. -/
theorem test_t8 :
    nextWith (exec .t8 (awaiting 0 [0x00] true 9 1))
      (fun t => t.teState = .prep ∧ t.attempt = 2 ∧ t.rxbuf = [0x00] ∧ t.rxErr) = true := by decide
/-- T-k. -/
theorem test_t8_limit :
    nextWith (exec .t8 (awaiting 0 [] true 9 3))
      (fun t => t.teState = .idle ∧ t.resStatus = 0x12 ∧ t.trace = [.doneWrite 0x12]) = true := by decide
/-- T-l. -/
theorem test_t9 :
    nextWith (exec .t9 (awaiting 2 [] false 0 1)) (fun t => t.teState = .prep ∧ t.attempt = 2) = true := by decide
/-- T-t. -/
theorem test_t9_no_retry :
    nextWith (exec .t9 { awaiting 0 [] false 0 1 with params := { maxAttempts := 1, respTicks := 9, rxDepth := none } })
      (fun t => t.teState = .idle ∧ t.resStatus = 0x12) = true := by decide
/-- T-n. -/
theorem test_t10_read :
    nextWith (exec .t10 (decodingRead 0x02 0xBA 0xAD 0xF0 0x0D 0x86 1))
      (fun t => t.teState = .idle ∧ t.rdata = 0xBAADF00D ∧ t.trace = [.doneRead 0x02 0xBAADF00D]) = true := by
  decide +kernel
/-- T-o. -/
theorem test_t10_write :
    nextWith (exec .t10 (decodingWrite 0x02 0xAC 1))
      (fun t => t.resStatus = 0x02 ∧ t.rdata = 0x0BADC0DE ∧ t.trace = [.doneWrite 0x02]) = true := by decide +kernel
/-- T-q. -/
theorem test_t11 :
    nextWith (exec .t11 (decodingRead 0x00 0xDE 0xAC 0xBE 0xEF 0x62 1))
      (fun t => t.teState = .prep ∧ t.attempt = 2 ∧ t.rdata = 0x0BADC0DE ∧ t.resStatus = 0) = true := by decide +kernel
/-- T-p. -/
theorem test_t11_limit :
    nextWith (exec .t11 (decodingWrite 0x00 0xA3 3))
      (fun t => t.teState = .idle ∧ t.resStatus = 0x12 ∧ t.trace = [.doneWrite 0x12]) = true := by decide +kernel
/-- R210. -/
theorem test_reset :
    nextWith (exec .reset (awaiting 1 [0x11] true 5 2))
      (fun t => t.teState = .idle ∧ !t.chOpen ∧ t.rxbuf = [] ∧ !t.rxErr ∧ t.trace = []) = true := by decide
/-- W3 as an instruction in PREP (R63, R125). -/
theorem test_reqWrite :
    nextWith (exec (.reqWrite 0x1000 0xDEADBEEF 0xC6) (prep 0x02 0x1000 0xDEADBEEF))
      (fun t => t.txbuf = #v[0xA5, 0x02, 0x00, 0x00, 0x10, 0x00, 0xDE, 0xAD, 0xBE, 0xEF, 0xC6, 0x5A]) = true := by
  decide +kernel
/-- E11 as an instruction in PREP (R62, R125). -/
theorem test_reqRead :
    nextWith (exec (.reqRead 0x2000 0x96) (prep 0x01 0x2000 0))
      (fun t => t.teState = .tx ∧ t.txbuf.toList.take 8 = [0xA5, 0x01, 0x00, 0x00, 0x20, 0x00, 0x96, 0x5A]) = true := by
  decide +kernel
/-- R10 of 95_test_vectors 2.4, judged for a READ. -/
theorem test_rspRead :
    nextWith (exec (.rspRead 0 0x11111111 0x25) (decodingRead 0 0 0 0 0 0 1))
      (fun t => t.teState = .idle ∧ t.rdata = 0x11111111 ∧ t.resStatus = 0) = true := by decide +kernel
/-- V11: a wrong check byte costs the attempt. -/
theorem test_rspWrite :
    nextWith (exec (.rspWrite 0 0xA3) (decodingWrite 0 0 1)) (fun t => t.teState = .prep ∧ t.attempt = 2) = true := by
  decide +kernel

/-! ## Witnesses: for each statement with hypotheses, a state and operands that meet them -/

theorem witness_ChecksumIsLinear : ([0xA5, 0x02, 0x00] : List Byte).length = ([0x00, 0x00, 0x01] : List Byte).length := by
  rfl

/-- The four spans (V1, E3, R1, W3) with one and with three flipped bits. -/
theorem witness_ChecksumDetectsUpToThreeFlips :
    (checkHolds [0xA5, 0x02, 0x00, 0xA2] ∧ bitsSet [0, 0, 0, 0x01] = 1 ∧ bitsSet [0x80, 0, 0x01, 0x80] = 3) ∧
    (checkHolds [0xA5, 0x01, 0x00, 0x00, 0x10, 0x00, 0x6F] ∧ bitsSet [0, 0, 0, 0, 0, 0, 0x07] = 3) ∧
    (checkHolds [0xA5, 0x01, 0x00, 0xDE, 0xAD, 0xBE, 0xEF, 0x62] ∧ bitsSet [0x80, 0, 0, 0, 0, 0, 0, 0] = 1) ∧
    (checkHolds [0xA5, 0x02, 0x00, 0x00, 0x10, 0x00, 0xDE, 0xAD, 0xBE, 0xEF, 0xC6] ∧
      bitsSet [0, 0x03, 0, 0, 0, 0, 0, 0, 0, 0, 0x01] = 3) := by
  unfold checkHolds
  decide +kernel

theorem witness_ChecksumDetectsOddFlips :
    checkHolds [0xA5, 0x02, 0x00, 0xA2] ∧ bitsSet [0xFF, 0x1F, 0, 0] % 2 = 1 := by
  unfold checkHolds
  decide +kernel

/-- One sequence for each clause, for the WRITE decoder: V14, V12, V11, V10, V8, V5, V1. -/
theorem witness_DecoderReportsTheFirstDefect_write :
    dec .write [0xA5, 0x02, 0x00, 0xA2] = .err .truncated ∧
    dec .write [0xA5, 0x02, 0x00, 0xA2, 0x5B] = .err .truncated ∧
    dec .write [0xA5, 0x02, 0x00, 0xA3, 0x5A] = .err .checksum ∧
    dec .write [0xA4, 0x02, 0x00, 0xC9, 0x5A] = .err .badStart ∧
    dec .write [0xA5, 0x01, 0x00, 0x9D, 0x5A] = .err .opcode ∧
    dec .write [0xA5, 0x02, 0x04, 0xBE, 0x5A] = .err .badStatus ∧
    dec .write [0xA5, 0x02, 0x00, 0xA2, 0x5A] = .okWrite 0 := by decide +kernel
/-- The same for the READ decoder: R19, R16, R11, a wrong start marker with a
valid check, R12, R13, R1, R20. -/
theorem witness_DecoderReportsTheFirstDefect_read :
    dec .read [0xA5, 0x01, 0x00, 0xDE, 0xAD, 0xBE, 0xEF, 0x62] = .err .truncated ∧
    dec .read [0x00, 0xA5, 0x01, 0x00, 0xDE, 0xAD, 0xBE, 0xEF, 0x62] = .err .truncated ∧
    dec .read [0xA5, 0x01, 0x00, 0xDE, 0xAC, 0xBE, 0xEF, 0x62, 0x5A] = .err .checksum ∧
    dec .read (sealFrame [0xA4, 0x01, 0x00, 0x00, 0x00, 0x00, 0x00]) = .err .badStart ∧
    dec .read [0xA5, 0x02, 0x00, 0x00, 0x00, 0x00, 0x00, 0xD3, 0x5A] = .err .opcode ∧
    dec .read [0xA5, 0x01, 0x04, 0x00, 0x00, 0x00, 0x00, 0x27, 0x5A] = .err .badStatus ∧
    dec .read [0xA5, 0x01, 0x00, 0xDE, 0xAD, 0xBE, 0xEF, 0x62, 0x5A] = .okRead 0 0xDEADBEEF ∧
    dec .read [0xA5, 0x01, 0x00, 0xDE, 0xAD, 0xBE, 0xEF, 0x62, 0x5A, 0x77] = .okRead 0 0xDEADBEEF := by
  decide +kernel

/-- The operand's edges, and a latched tag 0x03 in each state that reads it. -/
theorem witness_ReservedTagsStop :
    (0x00 : Byte) ≠ 0x01 ∧ (0x00 : Byte) ≠ 0x02 ∧ (0x03 : Byte) ≠ 0x01 ∧ (0x03 : Byte) ≠ 0x02 ∧
    (prep 0x03 0 0).reqOp = 0x03 ∧ (prep 0x03 0 0).teState = .prep ∧
    (sending 5 false).teState = .tx ∧ sendResult { sending 5 false with reqOp := 0x03 } = false ∧
    (awaiting 0 [] true 1 1).teState = .await ∧ (awaiting 0 [] true 1 1).rxErr = true ∧
    (awaiting 0 [] false 0 1).rxErr = false ∧ (awaiting 0 [] false 0 1).rxbuf = [] ∧ (awaiting 0 [] false 0 1).timer = 0 ∧
    (decodingWrite 0 0xA2 1).teState = .decode ∧ ({ decodingWrite 0 0xA2 1 with reqOp := 0x03 } : State).reqOp = 0x03 := by
  decide

theorem witness_FourWriteResponses :
    ([0xA5, 0x02, 0x03, 0xAB, 0x5A] : List Byte).length = 5 ∧ ([0xA5, 0x02, 0x04, 0xBE, 0x5A] : List Byte).length = 5 := by
  decide

/-- One sequence for each clause: Q11, Q7, Q10, Q9, Q8, Q3, Q6, and a wrong start marker with a valid check. -/
theorem witness_RequestDecoderReportsTheFirstDefect :
    decReq [0xA5] = .err .truncated ∧
    decReq [0xA5, 0x00, 0x00, 0x00, 0x10, 0x00, 0x6F, 0x5A] = .err .opcode ∧
    decReq [0xA5, 0x01, 0x00, 0x00, 0x10, 0x00, 0x6F] = .err .truncated ∧
    decReq [0xA5, 0x01, 0x00, 0x00, 0x10, 0x00, 0x6F, 0x5B] = .err .truncated ∧
    decReq [0xA5, 0x01, 0x00, 0x10, 0x10, 0x00, 0x6F, 0x5A] = .err .checksum ∧
    decReq (sealFrame [0xA4, 0x01, 0x00, 0x00, 0x10, 0x00]) = .err .badStart ∧
    decReq [0xA5, 0x01, 0x00, 0x00, 0x10, 0x00, 0x6F, 0x5A] = .okRead 0x1000 ∧
    decReq [0xA5, 0x02, 0x00, 0x00, 0x10, 0x00, 0xDE, 0xAD, 0xBE, 0xEF, 0xC6, 0x5A] = .okWrite 0x1000 0xDEADBEEF := by
  decide +kernel

/-- The status bound at its edge, and R5 and V4 for the converse. -/
theorem witness_CodecRoundTrip :
    (0x03 : Byte) ≤ 3 ∧ dec .read [0xA5, 0x01, 0x03, 0x00, 0x00, 0x00, 0x00, 0x0E, 0x5A] = .okRead 3 0 ∧
    dec .write [0xA5, 0x02, 0x03, 0xAB, 0x5A] = .okWrite 3 ∧ encRead 0x1000 = encRead 0x1000 ∧
    encWrite 0x1000 1 = encWrite 0x1000 1 := by decide +kernel

/-- The end marker, the OP byte and another byte of each frame, at bits 7 and 0 (95_test_vectors 2.7). -/
theorem witness_SingleFlipKinds :
    dec .write (flipBit (rspEncWrite 0) 4 7) = .err .truncated ∧ dec .write (flipBit (rspEncWrite 0) 0 0) = .err .checksum ∧
    dec .read (flipBit (rspEncRead 0 0xDEADBEEF) 8 0) = .err .truncated ∧
    dec .read (flipBit (rspEncRead 0 0xDEADBEEF) 7 7) = .err .checksum ∧
    decReq (flipBit (encRead 0x1000) 7 0) = .err .truncated ∧ decReq (flipBit (encRead 0x1000) 1 1) = .err .opcode ∧
    decReq (flipBit (encRead 0x1000) 3 4) = .err .checksum ∧
    decReq (flipBit (encWrite 0x1000 0xDEADBEEF) 11 0) = .err .truncated ∧
    decReq (flipBit (encWrite 0x1000 0xDEADBEEF) 1 7) = .err .opcode ∧
    decReq (flipBit (encWrite 0x1000 0xDEADBEEF) 10 0) = .err .checksum := by decide +kernel

/-- Patterns of one and of three bits for each frame, the last clause's with the OP byte changed otherwise than to a READ's. -/
theorem witness_NoSmallChangeOfAResponseIsAccepted :
    bitsSet [0, 0, 0, 0, 0, 0, 0, 0, 0x01] = 1 ∧ bitsSet [0, 0x03, 0, 0, 0, 0, 0, 0x80, 0] = 3 ∧
    bitsSet [0, 0, 0, 0, 0x80] = 1 ∧ bitsSet [0, 0x03, 0, 0, 0x80] = 3 ∧
    bitsSet [0, 0x03, 0, 0, 0, 0, 0, 0] = 2 ∧ bitsSet [0x01, 0, 0, 0, 0, 0, 0, 0x80] = 2 ∧
    bitsSet [0, 0x07, 0, 0, 0, 0, 0, 0, 0, 0, 0, 0] = 3 ∧
    ([0, 0x07, 0, 0, 0, 0, 0, 0, 0, 0, 0, 0] : List Byte).getD 1 0 ≠ 0x03 ∧
    bitsSet [0, 0, 0, 0, 0, 0, 0, 0, 0, 0, 0x01, 0] = 1 := by decide

theorem witness_PeerAnswersWellFormedRequests :
    decReq [0xA5, 0x01, 0x00, 0x10, 0x10, 0x00, 0x6F, 0x5A] = .err .checksum := by decide +kernel

theorem witness_UpperAddressBitsAreDiscarded :
    idle.teState = .idle ∧ idle.chOpen = true ∧
    (0xFFFFFFFF00001000 : AddrIn).extractLsb' 0 32 = (0x0000000000001000 : AddrIn).extractLsb' 0 32 := by decide

theorem witness_OpenResult :
    ({ idle with openAnswers := [true] } : State).openAnswers = true :: [] ∧
    ({ idle with openAnswers := [false, true] } : State).openAnswers = false :: [true] ∧ idle.openAnswers = [] := by decide

theorem witness_SendResult :
    State.reset.chOpen = false ∧ idle.chOpen = true ∧ (sending 0 true).sendAnswers = true :: [] ∧
    (sending 0 false).sendAnswers = false :: [] ∧ (sending 0 true).chOpen = true ∧ idle.sendAnswers = [] := by decide

theorem witness_ReceiveByPriority :
    (awaiting 0 [0xA5] true 0 1).rxErr = true ∧
    ((awaiting 0 [0xA5] false 0 1).rxErr = false ∧ (awaiting 0 [0xA5] false 0 1).rxbuf = 0xA5 :: []) ∧
    ((awaiting 0 [] false 0 1).rxErr = false ∧ (awaiting 0 [] false 0 1).rxbuf = [] ∧ (awaiting 0 [] false 0 1).timer = 0) ∧
    ((awaiting 0 [] false 1 1).rxErr = false ∧ (awaiting 0 [] false 1 1).rxbuf = [] ∧
      0 < (awaiting 0 [] false 1 1).timer) := by decide

/-- RXBUF_DEPTH 9: the ninth byte still fits, a tenth does not. -/
def nearlyFull (n : Nat) : State :=
  { idle with
      rxbuf := List.replicate n 0, schedule := [.lineRx 0x77]
      params := { maxAttempts := 3, respTicks := 100, rxDepth := some 9 } }

theorem witness_ArrivingByteIsBufferedOrDropped :
    ((nearlyFull 8).schedule = .lineRx 0x77 :: [] ∧ (nearlyFull 8).chOpen = true ∧
      (∀ d, (nearlyFull 8).params.rxDepth = some d → (nearlyFull 8).rxbuf.length < d)) ∧
    ((nearlyFull 9).schedule = .lineRx 0x77 :: [] ∧ (nearlyFull 9).params.rxDepth = some 9 ∧
      9 ≤ (nearlyFull 9).rxbuf.length) ∧
    ({ State.reset with schedule := [.lineRx 0x02] } : State).chOpen = false := by
  refine ⟨⟨rfl, rfl, ?_⟩, by decide, rfl⟩
  intro d h
  cases h
  decide

/-- A state with a receive error pending, the open's next answer ok. -/
def withRxErr (s : State) : State := { s with rxErr := true, openAnswers := [true] }

/-- An IDLE engine with a receive error pending and CONNECT presented. -/
def connectWithRxErr : State := { withRxErr idle with cmd := some (.word (commandWord 3 1 115200)) }

/-- The turns of LineRxErr; then, with the flag set, each instruction that clears it, and each step that does. -/
theorem witness_ReceiveFailureIsSticky :
    (({ idle with schedule := [.lineRxErr] } : State).schedule = .lineRxErr :: [] ∧ idle.chOpen = true ∧
      ({ State.reset with schedule := [.lineRxErr] } : State).schedule = .lineRxErr :: [] ∧ State.reset.chOpen = false) ∧
    ((withRxErr idle).rxErr = true ∧ (withRxErr (prep 0x01 0x1000 0)).rxErr = true ∧ connectWithRxErr.rxErr = true) ∧
    (nextWith (exec .saFlush (withRxErr idle)) (!·.rxErr) = true ∧
      nextWith (exec (.saOpen (.token 1) 115200) (withRxErr idle)) (!·.rxErr) = true ∧
      nextWith (exec (.connect (.token 1) 115200) (withRxErr idle)) (!·.rxErr) = true ∧
      nextWith (exec (.reqRead 0x1000 0x6F) (withRxErr (prep 0x01 0x1000 0))) (!·.rxErr) = true ∧
      nextWith (exec (.reqWrite 0x1000 1 0) (withRxErr (prep 0x02 0x1000 1))) (!·.rxErr) = true ∧
      nextWith (exec .t4 (withRxErr (prep 0x01 0x1000 0))) (!·.rxErr) = true ∧
      nextWith (exec .t1 connectWithRxErr) (!·.rxErr) = true ∧
      nextWith (exec .reset (withRxErr idle)) (!·.rxErr) = true) ∧
    nextWith (step (withRxErr (prep 0x01 0x1000 0))) (!·.rxErr) = true ∧
    nextWith (step connectWithRxErr) (!·.rxErr) = true ∧
    nextWith (step { withRxErr idle with schedule := [.reset] }) (!·.rxErr) = true :=
  ⟨by decide, by decide, ⟨rfl, rfl, rfl, rfl, rfl, rfl, rfl, rfl⟩, rfl, rfl, rfl⟩

theorem witness_TickCountsOnlyInAwait :
    ({ awaiting 0 [] false 1 1 with schedule := [.tick] } : State).schedule = .tick :: [] ∧
    (awaiting 0 [] false 1 1).teState = .await ∧ 0 < (awaiting 0 [] false 1 1).timer ∧
    (sending 0 true).teState ≠ .await ∧ (awaiting 0 [] false 0 1).timer = 0 := by decide

theorem witness_ConnectOpensOrCloses :
    idle.teState = .idle ∧
    ({ idle with cmd := some (.word (commandWord 3 1 115200)) } : State).cmd = some (.word (commandWord 3 1 115200)) ∧
    ({ idle with cmd := some (.wideConnect wideName 9600) } : State).cmd = some (.wideConnect wideName 9600) ∧
    ({ idle with openAnswers := [true] } : State).openAnswers = true :: [] ∧
    ({ idle with openAnswers := [false] } : State).openAnswers = false :: [] ∧ idle.openAnswers = [] ∧
    ({ idle with openAnswers := [true, true] } : State).openAnswers = true :: true :: [] := by decide

theorem witness_ReadAcceptance :
    idle.teState = .idle ∧ idle.chOpen = true ∧ State.reset.teState = .idle ∧ State.reset.chOpen = false ∧
    ({ idle with cmd := some (.word (commandWord 1 0x1000 0)) } : State).cmd = some (.word (commandWord 1 0x1000 0)) := by decide

theorem witness_WriteAcceptance :
    idle.teState = .idle ∧ idle.chOpen = true ∧ State.reset.teState = .idle ∧ State.reset.chOpen = false ∧
    ({ idle with cmd := some (.word (commandWord 2 0x1000 1)) } : State).cmd = some (.word (commandWord 2 0x1000 1)) := by decide

theorem witness_CommandInterface :
    idle.teState = .idle ∧ cmdOp (commandWord 3 1 115200) = 0b11 ∧ cmdOp (commandWord 1 0x1000 0) = 0b01 ∧
    cmdOp (commandWord 2 0x1000 1) = 0b10 ∧
    ({ idle with cmd := some (.word (commandWord 1 0x1000 0)) } : State).cmd = some (.word (commandWord 1 0x1000 0)) ∧
    ({ idle with cmd := some (.wideConnect wideName 9600) } : State).cmd = some (.wideConnect wideName 9600) ∧
    ({ idle with schedule := [.present (.word 1)] } : State).schedule = .present (.word 1) :: [] ∧
    ({ idle with schedule := [.withdraw] } : State).schedule = .withdraw :: [] := by decide

theorem witness_ReservedCommandChangesNothing :
    ({ idle with cmd := some (.word (commandWord 0 1 2)) } : State).teState = .idle ∧ idle.schedule = [] ∧
    ({ idle with cmd := some (.word (commandWord 0 1 2)) } : State).cmd = some (.word (commandWord 0 1 2)) := by decide

/-- A command presented while a byte is being sent. -/
def busyWithCommand : State := { sending 0 true with cmd := some (.word (commandWord 1 0x1000 0)) }

theorem witness_BusyEngineAcceptsNoCommand :
    busyWithCommand.teState ≠ .idle ∧ engineTurn busyWithCommand ∧ ∃ t, step busyWithCommand = .next t :=
  ⟨by decide, .inl rfl, _, rfl⟩

theorem witness_CommandInterfaceCannotDisturbATransaction :
    busyWithCommand.teState ≠ .idle ∧ engineTurn busyWithCommand ∧ ∃ t, step busyWithCommand = .next t :=
  ⟨by decide, .inl rfl, _, rfl⟩

theorem witness_FlushAndEncode :
    (prep 0x01 0x1000 0).teState = .prep ∧ (prep 0x01 0x1000 0).reqOp = 0x01 ∧ (prep 0x01 0x1000 0).reqAddr = 0x1000 ∧
    (prep 0x02 0x2000 1).teState = .prep ∧ (prep 0x02 0x2000 1).reqOp = 0x02 ∧ (prep 0x02 0x2000 1).reqData = 1 := by
  decide

theorem witness_SendOneByte :
    (sending 7 true).txidx.toNat < 12 ∧ (sending 7 true).teState = .tx ∧ sendResult (sending 7 true) = true ∧
    (sending 7 true).txidx.toNat + 1 = (sending 7 true).txlen.toNat ∧
    (sending 0 true).txidx.toNat + 1 ≠ (sending 0 true).txlen.toNat ∧
    sendResult (sending 0 true) = true ∧ (sending 0 true).txidx.toNat < 12 := by decide

theorem witness_SendFailureIsNeverRetried :
    (sending 5 false).txidx.toNat < 12 ∧ (sending 5 false).teState = .tx ∧ (sending 5 false).chOpen = true ∧
    sendResult (sending 5 false) = false ∧ (sending 5 false).reqOp = 0x01 ∧
    ({ sending 5 false with reqOp := 0x02 } : State).reqOp = 0x02 := by decide

theorem witness_CollectOneByte :
    (awaiting 4 [0x5A] false 1 1).rxidx.toNat < 9 ∧ (awaiting 4 [0x5A] false 1 1).teState = .await ∧
    (awaiting 4 [0x5A] false 1 1).rxErr = false ∧ (awaiting 4 [0x5A] false 1 1).rxbuf = 0x5A :: [] ∧
    (awaiting 4 [0x5A] false 1 1).rxidx.toNat + 1 = (awaiting 4 [0x5A] false 1 1).explen.toNat ∧
    (awaiting 0 [0x5A] false 0 1).rxidx.toNat + 1 ≠ (awaiting 0 [0x5A] false 0 1).explen.toNat := by decide

/-- A receive error and a timeout, below the limit and at it, for a WRITE and for a READ. -/
theorem witness_FailedWaitRetriesUpToTheLimit :
    (awaiting 0 [] true 1 1).teState = .await ∧ (awaiting 0 [] true 1 1).rxErr = true ∧
    (awaiting 0 [] false 0 1).rxErr = false ∧ (awaiting 0 [] false 0 1).rxbuf = [] ∧ (awaiting 0 [] false 0 1).timer = 0 ∧
    (awaiting 0 [] true 1 2).attempt ≠ (awaiting 0 [] true 1 2).params.maxAttempts ∧
    (awaiting 0 [] true 1 3).attempt = (awaiting 0 [] true 1 3).params.maxAttempts ∧ (awaiting 0 [] true 1 3).reqOp = 0x02 ∧
    ({ awaiting 0 [] false 0 3 with reqOp := 0x01 } : State).reqOp = 0x01 := by decide

/-- R1 and V1, in the last attempt. -/
theorem witness_DecodedResponseCompletes :
    (decodingRead 0 0xDE 0xAD 0xBE 0xEF 0x62 3).teState = .decode ∧
    (decodingRead 0 0xDE 0xAD 0xBE 0xEF 0x62 3).reqOp = 0x01 ∧
    dec .read ((decodingRead 0 0xDE 0xAD 0xBE 0xEF 0x62 3).rxfrm.toList.take
      (decodingRead 0 0xDE 0xAD 0xBE 0xEF 0x62 3).explen.toNat) = .okRead 0 0xDEADBEEF ∧
    (decodingWrite 0 0xA2 3).teState = .decode ∧ (decodingWrite 0 0xA2 3).reqOp = 0x02 ∧
    dec .write ((decodingWrite 0 0xA2 3).rxfrm.toList.take (decodingWrite 0 0xA2 3).explen.toNat) = .okWrite 0 := by
  decide +kernel

/-- R11 and V11, below the limit and at it. -/
theorem witness_DecodeErrorRetriesUpToTheLimit :
    (decodingRead 0 0xDE 0xAC 0xBE 0xEF 0x62 2).teState = .decode ∧
    (decodingRead 0 0xDE 0xAC 0xBE 0xEF 0x62 2).reqOp = 0x01 ∧
    (decodingRead 0 0xDE 0xAC 0xBE 0xEF 0x62 2).attempt ≠ 3 ∧ (decodingRead 0 0xDE 0xAC 0xBE 0xEF 0x62 3).attempt = 3 ∧
    dec .read ((decodingRead 0 0xDE 0xAC 0xBE 0xEF 0x62 2).rxfrm.toList.take
      (decodingRead 0 0xDE 0xAC 0xBE 0xEF 0x62 2).explen.toNat) = .err .checksum ∧
    (decodingWrite 0 0xA3 1).reqOp = 0x02 ∧ (decodingWrite 0 0xA3 3).attempt = (decodingWrite 0 0xA3 3).params.maxAttempts ∧
    dec .write ((decodingWrite 0 0xA3 1).rxfrm.toList.take (decodingWrite 0 0xA3 1).explen.toNat) = .err .checksum := by
  decide +kernel

/-- Below the limit, and in the last attempt for a frame with a wrong CRC field and for one of the other opcode. -/
theorem witness_ResponseFramesComplete :
    (decodingRead 0 0 0 0 0 0 1).teState = .decode ∧ (decodingRead 0 0 0 0 0 0 1).reqOp = 0x01 ∧
    (Instr.rspRead 0 0xDEADBEEF 0x62).wf = true ∧ (Instr.rspRead 0 0xDEADBEEF 0x63).wf = false ∧
    (decodingWrite 0 0 1).teState = .decode ∧ (decodingWrite 0 0 1).reqOp = 0x02 ∧ (Instr.rspWrite 3 0xAB).wf = true ∧
    (Instr.rspWrite 3 0xAC).wf = false ∧ (decodingWrite 0 0 1).attempt ≠ (decodingWrite 0 0 1).params.maxAttempts ∧
    (decodingRead 0 0 0 0 0 0 3).attempt = (decodingRead 0 0 0 0 0 0 3).params.maxAttempts ∧
    (decodingRead 0 0 0 0 0 0 3).reqOp = 0x01 ∧ Instr.rspWrite 3 0xAC ≠ Instr.rspRead 0 0xDEADBEEF 0x63 ∧
    (decodingWrite 0 0 3).attempt = (decodingWrite 0 0 3).params.maxAttempts ∧ (decodingWrite 0 0 3).reqOp = 0x02 := by
  decide +kernel

/-- One state for each clause: a busy engine; IDLE with nothing, another word and a wide CONNECT; another state, the
other send result, the other AWAIT conditions, V11 and V1 in DECODE, and the first index past each buffer. -/
theorem witness_StepsOutsideTheirGuardsStop :
    (sending 0 true).teState ≠ .idle ∧ idle.teState = .idle ∧ idle.cmd = none ∧
    ({ idle with cmd := some (.word (commandWord 1 0x1000 0)) } : State).cmd = some (.word (commandWord 1 0x1000 0)) ∧
    cmdOp (commandWord 1 0x1000 0) ≠ 0b11 ∧ cmdOp (commandWord 1 0x1000 0) ≠ 0b10 ∧ cmdOp (commandWord 0 0 0) ≠ 0b01 ∧
    ({ idle with cmd := some (.wideConnect wideName 9600) } : State).cmd = some (.wideConnect wideName 9600) ∧
    idle.teState ≠ .prep ∧ idle.teState ≠ .tx ∧ idle.teState ≠ .await ∧ idle.teState ≠ .decode ∧
    sendResult (sending 0 false) = false ∧ sendResult (sending 0 true) = true ∧
    (awaiting 0 [] true 1 1).rxErr = true ∧ (awaiting 0 [] false 1 1).rxbuf = [] ∧ (awaiting 0 [] false 1 1).rxErr = false ∧
    (awaiting 0 [0x5A] false 1 1).rxbuf ≠ [] ∧ 0 < (awaiting 0 [] false 1 1).timer ∧
    opOfTag (decodingWrite 0 0xA3 1).reqOp = some .write ∧
    decodedOk (dec .write ((decodingWrite 0 0xA3 1).rxfrm.toList.take (decodingWrite 0 0xA3 1).explen.toNat)) = false ∧
    decodedOk (dec .write ((decodingWrite 0 0xA2 1).rxfrm.toList.take (decodingWrite 0 0xA2 1).explen.toNat)) = true ∧
    (sending 12 true).teState = .tx ∧ 12 ≤ (sending 12 true).txidx.toNat ∧
    9 ≤ (awaiting 9 [0x5A] false 1 1).rxidx.toNat := by decide +kernel

theorem witness_ResetEventClosesTheChannel :
    ({ sending 0 true with schedule := [.reset] } : State).schedule = .reset :: [] := by rfl

/-! ### States that meet the invariant -/

theorem inv_idle (open_ : Bool) (w : Option Command) : Inv { idle with chOpen := open_, cmd := w } := by
  constructor <;> simp [idle, State.reset, Config.Params.valid]

theorem inv_prep : Inv (prep 0x01 0x1000 0) := by
  constructor <;> simp [prep, idle, State.reset, Config.Params.valid]
  exact ⟨.read, rfl⟩

theorem valid_standard : Config.Params.standard.valid := ⟨by decide, by decide, by decide⟩

/-- E3 in TXBUF. -/
theorem sending_frame :
    (#v[0xA5, 0x01, 0x00, 0x00, 0x10, 0x00, 0x6F, 0x5A, 0, 0, 0, 0] : Vector Byte 12).toList.take 8 = encRead 0x1000 := by
  decide +kernel

theorem inv_sending {k : BitVec 4} (ok : Bool) (hk : k.toNat < 8) : Inv (sending k ok) := by
  constructor
  · exact valid_standard
  · exact fun _ => rfl
  · exact fun _ => ⟨.read, rfl⟩
  · exact fun _ => ⟨Nat.le_refl 1, (by decide : 1 ≤ 3)⟩
  · exact fun _ => ⟨.read, ⟨rfl, rfl⟩, rfl, sending_frame, hk, rfl⟩
  · exact fun h => nomatch h
  · exact fun h => nomatch h
  · exact fun _ h => nomatch h
  · show k.toNat ≤ 12
    omega
  · exact Nat.zero_le _
  · exact Nat.zero_le _

theorem inv_awaiting {k : BitVec 4} {ticks attempt : Nat} (buf : List Byte) (err : Bool) (hk : k.toNat < 5)
    (ht : ticks ≤ 100) (h1 : 1 ≤ attempt) (h3 : attempt ≤ 3) : Inv (awaiting k buf err ticks attempt) := by
  constructor
  · exact valid_standard
  · exact fun _ => rfl
  · exact fun _ => ⟨.write, rfl⟩
  · exact fun _ => ⟨h1, h3⟩
  · exact fun h => nomatch h
  · exact fun _ => ⟨.write, ⟨rfl, rfl⟩, hk, ht⟩
  · exact fun h => nomatch h
  · exact fun _ h => nomatch h
  · exact Nat.zero_le _
  · show k.toNat ≤ 9
    omega
  · exact ht

theorem inv_decoding {attempt : Nat} (st crc : Byte) (h1 : 1 ≤ attempt) (h3 : attempt ≤ 3) :
    Inv (decodingWrite st crc attempt) := by
  constructor
  · exact valid_standard
  · exact fun _ => rfl
  · exact fun _ => ⟨.write, rfl⟩
  · exact fun _ => ⟨h1, h3⟩
  · exact fun h => nomatch h
  · exact fun h => nomatch h
  · exact fun _ => ⟨.write, ⟨rfl, rfl⟩, rfl⟩
  · exact fun _ h => nomatch h
  · exact Nat.zero_le _
  · exact (by decide : 5 ≤ 9)
  · exact Nat.zero_le _

/-- A command in IDLE, the two request frames in PREP, a response frame in DECODE. -/
theorem witness_StepRunsTheDecodedInstruction :
    (engineTurn { idle with cmd := some (.word (commandWord 1 0x1000 0)) } ∧
      decode (.command (.word (commandWord 1 0x1000 0))) = .ok (.read 0x1000 0)) ∧
    (engineTurn (prep 0x01 0x1000 0) ∧ decode (.frame (encRead 0x1000)) = .ok (.reqRead 0x1000 (crc8 (reqReadPayload 0x1000)))) ∧
    (engineTurn (prep 0x02 0x1000 1) ∧
      decode (.frame (encWrite 0x1000 1)) = .ok (.reqWrite 0x1000 1 (crc8 (reqWritePayload 0x1000 1)))) ∧
    (engineTurn (decodingWrite 0 0xA2 3) ∧ Inv (decodingWrite 0 0xA2 3) ∧
      decode (.frame ((decodingWrite 0 0xA2 3).rxfrm.toList.take (decodingWrite 0 0xA2 3).explen.toNat)) =
        .ok (.rspWrite 0 0xA2)) :=
  ⟨⟨.inl rfl, rfl⟩, ⟨.inl rfl, rfl⟩, ⟨.inl rfl, rfl⟩, .inl rfl, inv_decoding _ _ (by decide) (by decide), rfl⟩

/-- For each clause, in the statement's order, a state of the invariant on the engine's turn that meets it. -/
theorem witness_TransitionTable_idle :
    Inv { idle with chOpen := true, cmd := none } ∧
    (Inv { idle with chOpen := true, cmd := some (.word (commandWord 3 1 115200)) } ∧
      decode (.command (.word (commandWord 3 1 115200))) = .ok (.connect (.token 1) 115200)) ∧
    (Inv { idle with chOpen := false, cmd := some (.wideConnect wideName 9600) } ∧
      decode (.command (.wideConnect wideName 9600)) = .ok (.connect (.wide wideName) 9600)) ∧
    (Inv { idle with chOpen := false, cmd := some (.word (commandWord 1 0x1000 0)) } ∧ cmdOp (commandWord 1 0x1000 0) = 0b01) ∧
    (Inv { idle with chOpen := true, cmd := some (.word (commandWord 2 0x1000 1)) } ∧ cmdOp (commandWord 2 0x1000 1) = 0b10) ∧
    engineTurn idle :=
  ⟨inv_idle _ _, ⟨inv_idle _ _, rfl⟩, ⟨inv_idle _ _, rfl⟩, ⟨inv_idle _ _, rfl⟩, ⟨inv_idle _ _, rfl⟩, .inl rfl⟩

theorem witness_TransitionTable_sending :
    (Inv (prep 0x01 0x1000 0) ∧ (prep 0x01 0x1000 0).teState = .prep) ∧
    (Inv (sending 6 true) ∧ sendResult (sending 6 true) = true ∧ (sending 6 true).txidx.toNat + 1 < (sending 6 true).txlen.toNat) ∧
    (Inv (sending 7 true) ∧ sendResult (sending 7 true) = true ∧ (sending 7 true).txidx.toNat + 1 = (sending 7 true).txlen.toNat) ∧
    (Inv (sending 0 false) ∧ sendResult (sending 0 false) = false) ∧ engineTurn (sending 0 false) :=
  ⟨⟨inv_prep, rfl⟩, ⟨inv_sending true (by decide), by decide⟩, ⟨inv_sending true (by decide), by decide⟩,
    ⟨inv_sending false (by decide), by decide⟩, .inl rfl⟩

theorem witness_TransitionTable_awaiting :
    Inv (awaiting 0 [0x00] true 1 2) ∧ Inv (awaiting 0 [] true 1 3) ∧ Inv (awaiting 3 [0xA2] false 0 3) ∧
    Inv (awaiting 4 [0x5A] false 0 3) ∧ Inv (awaiting 2 [] false 0 2) ∧ Inv (awaiting 2 [] false 0 3) ∧
    Inv (awaiting 2 [] false 1 1) ∧ engineTurn (awaiting 2 [] false 1 1) ∧
    (awaiting 4 [0x5A] false 0 3).rxidx.toNat + 1 = (awaiting 4 [0x5A] false 0 3).explen.toNat ∧
    (awaiting 3 [0xA2] false 0 3).rxidx.toNat + 1 < (awaiting 3 [0xA2] false 0 3).explen.toNat := by
  refine ⟨?_, ?_, ?_, ?_, ?_, ?_, ?_, .inl rfl, by decide, by decide⟩ <;>
    exact inv_awaiting _ _ (by decide) (by decide) (by decide) (by decide)

/-- V3 decoded; V11 below the limit and at it. -/
theorem witness_TransitionTable_decoding :
    (Inv (decodingWrite 0x02 0xAC 1) ∧ opOfTag (decodingWrite 0x02 0xAC 1).reqOp = some .write ∧
      decodedOk (dec .write ((decodingWrite 0x02 0xAC 1).rxfrm.toList.take (decodingWrite 0x02 0xAC 1).explen.toNat)) = true) ∧
    (Inv (decodingWrite 0 0xA3 2) ∧ Inv (decodingWrite 0 0xA3 3) ∧
      decodedOk (dec .write ((decodingWrite 0 0xA3 2).rxfrm.toList.take (decodingWrite 0 0xA3 2).explen.toNat)) = false) :=
  ⟨⟨inv_decoding _ _ (by decide) (by decide), rfl, by decide +kernel⟩, inv_decoding _ _ (by decide) (by decide),
    inv_decoding _ _ (by decide) (by decide), by decide +kernel⟩

theorem witness_StepNeverStops : Inv (sending 7 true) := inv_sending true (by decide)

theorem witness_EveryStepKeepsTheInvariant :
    Inv (awaiting 4 [0x5A] false 100 3) ∧ ∃ t, step (awaiting 4 [0x5A] false 100 3) = .next t ∧ t.teState = .decode :=
  ⟨inv_awaiting _ _ (by decide) (by decide) (by decide) (by decide), _, rfl, rfl⟩

/-- A READ refused because the channel is closed writes RES_STATUS. -/
theorem witness_StatusIsOneOfSevenCodes :
    ∃ t, step { State.reset with cmd := some (.word (commandWord 1 0x1000 0)) } = .next t ∧
      ¬ resetTurn { State.reset with cmd := some (.word (commandWord 1 0x1000 0)) } ∧ t.resStatus ≠ State.reset.resStatus :=
  ⟨_, rfl, fun h => (by obtain ⟨_, h⟩ := h; cases h), by decide⟩

/-- R7 decoded writes RDATA. -/
theorem witness_ReadDataOnlyFromADecodedResponse :
    ¬ resetTurn (decodingRead 0x02 0xBA 0xAD 0xF0 0x0D 0x86 1) ∧
    nextWith (step (decodingRead 0x02 0xBA 0xAD 0xF0 0x0D 0x86 1))
      (fun t => t.rdata ≠ (decodingRead 0x02 0xBA 0xAD 0xF0 0x0D 0x86 1).rdata) = true :=
  ⟨fun h => (by obtain ⟨_, h⟩ := h; cases h), by decide +kernel⟩

/-- Both decoders' values, and the seven codes at the edges of their ranges. -/
theorem witness_TransportCodesAreDisjoint :
    dec .write [0xA5, 0x02, 0x03, 0xAB, 0x5A] = .okWrite 0x03 ∧
    dec .read [0xA5, 0x01, 0x03, 0x00, 0x00, 0x00, 0x00, 0x0E, 0x5A] = .okRead 0x03 0 ∧
    legalStatus 0x03 ∧ legalStatus 0x10 := by
  unfold legalStatus
  decide +kernel

theorem witness_RequestIsImmutable :
    ∃ t, step { idle with cmd := some (.word (commandWord 1 0x1000 0)) } = .next t ∧
      ¬ resetTurn { idle with cmd := some (.word (commandWord 1 0x1000 0)) } ∧ t.reqAddr ≠ idle.reqAddr :=
  ⟨_, rfl, fun h => (by obtain ⟨_, h⟩ := h; cases h), by decide⟩

theorem witness_ChannelChangesOnlyByConnect :
    ∃ t, step { State.reset with cmd := some (.word (commandWord 3 1 115200)), openAnswers := [true] } = .next t ∧
      ¬ resetTurn { State.reset with cmd := some (.word (commandWord 3 1 115200)), openAnswers := [true] } ∧
      t.chOpen ≠ State.reset.chOpen :=
  ⟨_, rfl, fun h => (by obtain ⟨_, h⟩ := h; cases h), by decide⟩

theorem witness_OnlyRequestBytesAreSent :
    Inv (sending 7 true) ∧ nextWith (step (sending 7 true)) (fun t => t.trace = [.tx 0x5A]) = true :=
  ⟨inv_sending true (by decide), by decide⟩

theorem witness_AttemptsAreCounted :
    ∃ t, step (awaiting 0 [] true 1 1) = .next t ∧ ¬ resetTurn (awaiting 0 [] true 1 1) ∧
      t.attempt ≠ (awaiting 0 [] true 1 1).attempt :=
  ⟨_, rfl, fun h => (by obtain ⟨_, h⟩ := h; cases h), by decide⟩

/-- An engine step and a tick in a transaction. -/
theorem witness_EveryStepMakesProgress :
    (Inv (sending 7 true) ∧ (sending 7 true).teState ≠ .idle ∧ engineTurn (sending 7 true) ∧
      enabledStep (sending 7 true) ≠ none ∧ ∃ t, step (sending 7 true) = .next t) ∧
    ({ awaiting 4 [0x5A] false 100 3 with schedule := [.tick] } : State).schedule = .tick :: [] ∧
    (awaiting 4 [0x5A] false 100 3).teState = .await ∧ 0 < (awaiting 4 [0x5A] false 100 3).timer :=
  ⟨⟨inv_sending true (by decide), by decide, .inl rfl, by decide, _, rfl⟩, rfl, rfl, by decide⟩

/-- The last attempt of a READ on a line that stays silent for one tick. -/
def silent : State :=
  { prep 0x01 0x1000 0 with
      params := { maxAttempts := 1, respTicks := 1, rxDepth := none }
      sendAnswers := List.replicate 8 true, schedule := silentAttempts .read 1 1 }

theorem witness_SilentLineExhaustsTheAttempts :
    silent.params.valid ∧ silent.teState = .prep ∧ opOfTag silent.reqOp = some .read ∧ silent.chOpen = true ∧
    1 ≤ silent.attempt ∧ 1 + silent.attempt = silent.params.maxAttempts + 1 ∧
    silent.sendAnswers = List.replicate (1 * txlenOf .read) true ++ [] ∧
    silent.schedule = silentAttempts .read silent.params.respTicks 1 ++ [] := by
  unfold Config.Params.valid
  decide

/-- A READ presented, the line's answers and the response R1 to come. -/
def readToCome : State :=
  { idle with
      cmd := some (.word (commandWord 1 0x1000 0)), sendAnswers := List.replicate 8 true
      schedule := .engine :: answeredAttempt .read (rspEncRead 0 0xDEADBEEF) }

theorem witness_ReadReturnsTheAnsweredData :
    readToCome.params.valid ∧ readToCome.teState = .idle ∧ readToCome.chOpen = true ∧
    readToCome.cmd = some (.word (commandWord 0b01 0x1000 0)) ∧ readToCome.sendAnswers = List.replicate 8 true ++ [] ∧
    readToCome.schedule = .engine :: answeredAttempt .read (rspEncRead ((0 : BitVec 2).setWidth 8) 0xDEADBEEF) ++ [] :=
  ⟨by unfold Config.Params.valid; decide, rfl, rfl, rfl, rfl, by decide +kernel⟩

/-- A WRITE presented, the line's answers and the response V3 to come. -/
def writeToCome : State :=
  { idle with
      cmd := some (.word (commandWord 2 0x1000 1)), sendAnswers := List.replicate 12 true
      schedule := .engine :: answeredAttempt .write (rspEncWrite 2) }

theorem witness_WriteReturnsTheAnsweredStatus :
    writeToCome.params.valid ∧ writeToCome.teState = .idle ∧ writeToCome.chOpen = true ∧
    writeToCome.cmd = some (.word (commandWord 0b10 0x1000 1)) ∧ writeToCome.sendAnswers = List.replicate 12 true ++ [] ∧
    writeToCome.schedule = .engine :: answeredAttempt .write (rspEncWrite ((2 : BitVec 2).setWidth 8)) ++ [] :=
  ⟨by unfold Config.Params.valid; decide, rfl, rfl, rfl, rfl, by decide +kernel⟩

end Sys2Proof.Tests
end

section
/-! PROOFS. The address operand (spec/20_memory.md R42): acceptance sees only its low 32 bits. -/

namespace Sys2Proof.Machine

/-! The command words READ and WRITE as instructions. -/

theorem exec_read (addr : AddrIn) (ignored : Word) (s : State) :
    exec (.read addr ignored) s = execRead addr ignored s := rfl

theorem exec_write (addr : AddrIn) (data : Word) (s : State) :
    exec (.write addr data) s = execWrite addr data s := rfl

theorem busy_eq_false_of_idle {s : State} (h : s.teState = .idle) : s.busy = false := by
  simp [State.busy, h]

/-- An idle engine accepts a READ; its data operand is not looked at (R123). -/
theorem exec_read_of_idle (addr : AddrIn) (ignored : Word) {s : State} (h : s.teState = .idle) :
    exec (.read addr ignored) s = .next (acceptRequest .read addr 0 s) := by
  simp [exec_read, execRead, busy_eq_false_of_idle h]

/-- An idle engine accepts a WRITE (R124). -/
theorem exec_write_of_idle (addr : AddrIn) (data : Word) {s : State} (h : s.teState = .idle) :
    exec (.write addr data) s = .next (acceptRequest .write addr data s) := by
  simp [exec_write, execWrite, busy_eq_false_of_idle h]

/-! The wire address is the low half of the operand. -/

theorem trunc32_eq_extractLsb' (a : AddrIn) : trunc32 a = a.extractLsb' 0 32 :=
  BitVec.setWidth_eq_extractLsb' (by decide)

theorem acceptRequest_reqAddr_of_open (op : Opcode) (addr : AddrIn) (data : Word) {s : State}
    (hopen : s.chOpen = true) : (acceptRequest op addr data s).reqAddr = trunc32 addr := by
  rcases acceptRequest_cases op addr data s with ⟨_, h⟩ | ⟨hclosed, _⟩
  · rw [h]
  · simp [hopen] at hclosed

/-- Acceptance depends on the address operand only through trunc_32, on an open channel and on a closed one. -/
theorem acceptRequest_congr_trunc32 (op : Opcode) {a b : AddrIn} (data : Word) (s : State)
    (h : trunc32 a = trunc32 b) : acceptRequest op a data s = acceptRequest op b data s := by
  simp only [acceptRequest, h]

/-- Settles O19: an idle engine latches trunc_32 of the operand, and acceptance, the only use of the operand, sees
nothing else of it. -/
theorem upperAddressBitsAreDiscarded : Obligations.UpperAddressBitsAreDiscarded := by
  unfold Obligations.UpperAddressBitsAreDiscarded
  refine ⟨fun a x d s hidle hopen => ⟨?_, ?_⟩, fun a b x d s hlow => ?_⟩
  · refine ⟨_, exec_read_of_idle a x hidle, ?_⟩
    rw [acceptRequest_reqAddr_of_open _ _ _ hopen, trunc32_eq_extractLsb']
  · refine ⟨_, exec_write_of_idle a d hidle, ?_⟩
    rw [acceptRequest_reqAddr_of_open _ _ _ hopen, trunc32_eq_extractLsb']
  · have htrunc : trunc32 a = trunc32 b := by simpa only [trunc32_eq_extractLsb'] using hlow
    constructor
    · simp only [exec_read, execRead, acceptRequest_congr_trunc32 .read 0 s htrunc]
    · simp only [exec_write, execWrite, acceptRequest_congr_trunc32 .write d s htrunc]

end Sys2Proof.Machine
end

section
/-! PROOFS. The four RSP.WRITE frames (spec/30_encoding.md R65): what the decoder and DEC accept among the five-byte
sequences is what RSPENC.WRITE writes for one of the four AXI codes. -/

namespace Sys2Proof.Machine

/-! Inversion of the decoder's shared checks, and of the whole decoder on five bytes. -/

theorem checkMarkers_ok {tag b0 b1 last : Byte} {i j : Instr} (h : checkMarkers tag b0 b1 last i = .ok j) :
    b0 = Config.sof ∧ b1 = tag ∧ last = Config.eof ∧ j = i := by
  unfold checkMarkers at h
  split at h
  · cases h
  split at h
  · cases h
  split at h
  · cases h
  rename_i hlast h0 h1
  cases h
  exact ⟨Decidable.not_not.mp h0, Decidable.not_not.mp h1, Decidable.not_not.mp hlast, rfl⟩

theorem checkStatus_ok {st : Byte} {r : Except DecodeReject Instr} {j : Instr} (h : checkStatus st r = .ok j) :
    statusLegal st = true ∧ r = .ok j := by
  cases r with
  | error e => cases h
  | ok i =>
    simp only [checkStatus] at h
    split at h
    · exact ⟨‹_›, h⟩
    · cases h

theorem wf_rspWrite_iff (st : BitVec 2) (crc : Byte) :
    (Instr.rspWrite st crc).wf = true ↔ crc = crc8 (rspWritePayload (statusByte st)) := by
  simp [Instr.wf]

/-- The five bytes of a RSP.WRITE, by position (R65). -/
theorem rspEncWrite_eq (st : Byte) :
    rspEncWrite st = [Config.sof, Config.tagWrite, st, crc8 (rspWritePayload st), Config.eof] := rfl

/-- Five bytes decode to a RSP.WRITE only, and only from the bytes the encoder writes for it. -/
theorem encode_of_decode_five {bytes : List Byte} {i : Instr} (hlen : bytes.length = 5)
    (h : decode (.frame bytes) = .ok i) : ∃ st crc, i = .rspWrite st crc ∧ encode i = some (.frame bytes) := by
  match bytes, hlen with
  | [b0, b1, b2, b3, b4], _ =>
    obtain ⟨hst, hmark⟩ := checkStatus_ok h
    obtain ⟨rfl, rfl, rfl, rfl⟩ := checkMarkers_ok hmark
    exact ⟨_, _, rfl, by simp only [encode, statusByte_statusCode hst]⟩

theorem decode_five_wf_iff {bytes : List Byte} (hlen : bytes.length = 5) :
    (∃ i : Instr, decode (.frame bytes) = .ok i ∧ i.wf = true) ↔ ∃ st, bytes = rspEncWrite (statusByte st) := by
  constructor
  · rintro ⟨i, hdec, hwf⟩
    obtain ⟨st, crc, rfl, henc⟩ := encode_of_decode_five hlen hdec
    obtain rfl := (wf_rspWrite_iff st crc).mp hwf
    cases henc
    exact ⟨st, rfl⟩
  · rintro ⟨st, rfl⟩
    have hwf := (wf_rspWrite_iff st _).mpr rfl
    exact ⟨_, Laws.RoundTrip.rspWrite st _ hwf _ rfl, hwf⟩

/-! DEC of a WRITE and RSPENC.WRITE are inverse (R96, R101). -/

theorem dec_write_rspEncWrite {st : Byte} (h : statusLegal st = true) : dec .write (rspEncWrite st) = .okWrite st := by
  simp [dec, rspEncWrite_eq, rspWritePayload, explenOf, byteAt, opTag, decValues, h]

theorem eq_rspEncWrite_of_dec_write {bytes : List Byte} {st : Byte} (hlen : bytes.length = 5)
    (h : dec .write bytes = .okWrite st) : statusLegal st = true ∧ bytes = rspEncWrite st := by
  obtain ⟨_, hend, hcrc, hstart, htag, hlegal, hval⟩ := dec_ok (op := .write) (s := bytes) (by rw [h]; rfl)
  obtain rfl : byteAt bytes 2 = st := by simpa [h, decValues, eq_comm] using hval
  refine ⟨hlegal, ?_⟩
  match bytes, hlen with
  | [b0, b1, b2, b3, b4], _ =>
    obtain ⟨rfl, rfl, rfl⟩ : b0 = Config.sof ∧ b1 = Config.tagWrite ∧ b4 = Config.eof := ⟨hstart, htag, hend⟩
    obtain rfl : b3 = crc8 (rspWritePayload b2) := hcrc
    rfl

theorem dec_write_ok_iff {bytes : List Byte} (hlen : bytes.length = 5) :
    (∃ st, dec .write bytes = .okWrite st) ↔ ∃ st, bytes = rspEncWrite (statusByte st) := by
  constructor
  · rintro ⟨st, h⟩
    obtain ⟨hlegal, hbytes⟩ := eq_rspEncWrite_of_dec_write hlen h
    exact ⟨statusCode st, by rw [statusByte_statusCode hlegal, hbytes]⟩
  · rintro ⟨st, rfl⟩
    exact ⟨_, dec_write_rspEncWrite (statusLegal_statusByte st)⟩

/-! The four frames, written out. -/

/-- The four byte sequences of R65, in the order of their AXI codes. -/
def rspWriteFrames : List (List Byte) :=
  [[0xA5, 0x02, 0x00, 0xA2, 0x5A], [0xA5, 0x02, 0x01, 0xA5, 0x5A],
    [0xA5, 0x02, 0x02, 0xAC, 0x5A], [0xA5, 0x02, 0x03, 0xAB, 0x5A]]

/-- They are RSPENC.WRITE of the four codes; the CRC bytes are computed here. -/
theorem rspWriteFrames_eq_map : rspWriteFrames = [0, 1, 2, 3].map fun st => rspEncWrite (statusByte st) := by
  decide +kernel

theorem mem_rspWriteFrames_iff {bytes : List Byte} :
    bytes ∈ rspWriteFrames ↔ ∃ st, bytes = rspEncWrite (statusByte st) := by
  have hall : ∀ st : BitVec 2, st ∈ ([0, 1, 2, 3] : List (BitVec 2)) := by decide
  simp only [rspWriteFrames_eq_map, List.mem_map, hall, true_and, eq_comm]

/-- Settles O11: both readings of a five-byte sequence accept exactly what RSPENC.WRITE writes for an AXI code, and
those are the four listed frames. -/
theorem fourWriteResponses : Obligations.FourWriteResponses := by
  unfold Obligations.FourWriteResponses
  intro bytes hlen
  exact ⟨(decode_five_wf_iff hlen).trans mem_rspWriteFrames_iff.symm,
    (dec_write_ok_iff hlen).trans mem_rspWriteFrames_iff.symm⟩

end Sys2Proof.Machine
end

section
/-! PROOFS. CRC8 as an operation and as the bitwise algorithm (spec/40_frame_codec.md R91). -/

namespace Sys2Proof.Machine

theorem exec_crc8 (bytes : List Byte) (s : State) :
    exec (.crc8 bytes) s = .next { s with opResult := .byte (crc8 bytes) } := rfl

/-- One turn looks at bit 7, the most significant (R91). -/
theorem crcBit_eq_bit7 : crcBit = fun c => if c.getLsbD 7 then (c <<< 1) ^^^ 0x07 else c <<< 1 := by
  funext c
  rw [crcBit, BitVec.msb_eq_getLsbD_last]

theorem crcByte_eq_repeat (c b : Byte) : crcByte c b = Nat.repeat crcBit 8 (c ^^^ b) := rfl

/-- From the initial value 0x00 a zero byte leads back to 0x00 (R91). -/
theorem crcByte_zero_zero : crcByte 0 0 = 0 := by decide

theorem crc8_cons_zero (bytes : List Byte) : crc8 (0 :: bytes) = crc8 bytes := by
  rw [crc8, List.foldl_cons, crcByte_zero_zero, crc8]

/-- Settles O1: one byte more is one `crcByte`, which is eight turns on the byte XORed in; the listed values are
computed. -/
theorem checksumIsCrc8 : Obligations.ChecksumIsCrc8 := by
  unfold Obligations.ChecksumIsCrc8
  refine ⟨exec_crc8, crc8_nil, fun bytes b => ?_, crc8_cons_zero, ?_⟩
  · rw [crc8_append_byte, crcByte_eq_repeat, crcBit_eq_bit7]
  · decide +kernel

end Sys2Proof.Machine
end

section
/-! PROOFS. The request encoders (spec/40_frame_codec.md R93, R94) as operations, and their frames byte by byte. -/

namespace Sys2Proof.Machine

theorem exec_encRead (a : Word) (s : State) :
    exec (.encRead a) s = .next { s with opResult := .bytes (encRead a) } := rfl

theorem exec_encWrite (a d : Word) (s : State) :
    exec (.encWrite a d) s = .next { s with opResult := .bytes (encWrite a d) } := rfl

theorem reqReadPayload_eq (a : Word) : reqReadPayload a =
    [0xA5, 0x01, a.extractLsb' 24 8, a.extractLsb' 16 8, a.extractLsb' 8 8, a.extractLsb' 0 8] := rfl

theorem reqWritePayload_eq (a d : Word) : reqWritePayload a d =
    [0xA5, 0x02, a.extractLsb' 24 8, a.extractLsb' 16 8, a.extractLsb' 8 8, a.extractLsb' 0 8,
      d.extractLsb' 24 8, d.extractLsb' 16 8, d.extractLsb' 8 8, d.extractLsb' 0 8] := rfl

/-- Settles O6: each encoder leaves its sealed payload in the result field, and the payload is the listed bytes. -/
theorem encodersReturnTheFrame : Obligations.EncodersReturnTheFrame := by
  unfold Obligations.EncodersReturnTheFrame
  constructor
  · intro a s
    rw [exec_encRead, encRead, reqReadPayload_eq, sealFrame]
  · intro a d s
    rw [exec_encWrite, encWrite, reqWritePayload_eq, sealFrame]

end Sys2Proof.Machine
end

section
/-! PROOFS. The checks that DEC and DECREQ share (spec/40_frame_codec.md R96, R100), in their order. -/

namespace Sys2Proof.Machine

/-- The length, end marker, CRC and start marker checks of a frame of `L` bytes, and then `next`. -/
def checkFrame {α : Type} (L : Nat) (err : DecodeError → α) (s : List Byte) (next : α) : α :=
  if s.length < L then err .truncated
  else if byteAt s (L - 1) ≠ Config.eof then err .truncated
  else if byteAt s (L - 2) ≠ crc8 (s.take (L - 2)) then err .checksum
  else if byteAt s 0 ≠ Config.sof then err .badStart
  else next

/-- What DEC does behind the shared checks: the opcode echo and the reserved status bits (R96). -/
theorem dec_eq_checkFrame (op : Opcode) (s : List Byte) : dec op s = checkFrame (explenOf op) .err s
    (if byteAt s 1 ≠ opTag op then .err .opcode
      else if statusLegal (byteAt s 2) = false then .err .badStatus else decValues op s) := rfl

/-- The values DECREQ returns for a request that passed every check (R100), as `decValues` is for DEC. -/
def decReqValues (op : Opcode) (s : List Byte) : ReqResult :=
  match op with
  | .read => .okRead (unbe32At s 2)
  | .write => .okWrite (unbe32At s 2) (unbe32At s 6)

theorem decReqBody_eq_checkFrame (op : Opcode) (s : List Byte) :
    decReqBody op s = checkFrame (txlenOf op) .err s (decReqValues op s) := by
  cases op <;> rfl

section Checks
variable {α : Type} {L : Nat} {err : DecodeError → α} {s : List Byte} {next : α}

theorem checkFrame_of_short (h : s.length < L) : checkFrame L err s next = err .truncated := if_pos h

theorem checkFrame_of_end_ne (h : byteAt s (L - 1) ≠ Config.eof) : checkFrame L err s next = err .truncated := by
  rw [checkFrame, if_pos h, ite_self]

variable (hlen : L ≤ s.length) (hend : byteAt s (L - 1) = Config.eof)
include hlen hend

theorem checkFrame_of_crc_ne (h : byteAt s (L - 2) ≠ crc8 (s.take (L - 2))) :
    checkFrame L err s next = err .checksum := by
  rw [checkFrame, if_neg (Nat.not_lt.mpr hlen), if_neg (not_not_intro hend), if_pos h]

variable (hcrc : byteAt s (L - 2) = crc8 (s.take (L - 2)))
include hcrc

theorem checkFrame_of_start_ne (h : byteAt s 0 ≠ Config.sof) : checkFrame L err s next = err .badStart := by
  rw [checkFrame, if_neg (Nat.not_lt.mpr hlen), if_neg (not_not_intro hend), if_neg (not_not_intro hcrc), if_pos h]

theorem checkFrame_of_start (h : byteAt s 0 = Config.sof) : checkFrame L err s next = next := by
  rw [checkFrame, if_neg (Nat.not_lt.mpr hlen), if_neg (not_not_intro hend), if_neg (not_not_intro hcrc),
    if_neg (not_not_intro h)]

end Checks

theorem byteAt_append_of_lt {s : List Byte} {i : Nat} (h : i < s.length) (more : List Byte) :
    byteAt (s ++ more) i = byteAt s i := by
  rw [byteAt, byteAt, List.getD_eq_getElem?_getD, List.getD_eq_getElem?_getD, List.getElem?_append_left h]

theorem byteAt_append_length_add (s more : List Byte) (i : Nat) :
    byteAt (s ++ more) (s.length + i) = byteAt more i := by
  rw [byteAt, byteAt, List.getD_eq_getElem?_getD, List.getD_eq_getElem?_getD,
    List.getElem?_append_right (Nat.le_add_right _ _), Nat.add_sub_cancel_left]

/-- A sealed payload that begins with the start marker passes the shared checks (R60, R69). -/
theorem checkFrame_sealFrame {α : Type} {L : Nat} {p : List Byte} (hlen : p.length + 2 = L) (hpos : 0 < p.length)
    (hstart : byteAt p 0 = Config.sof) (err : DecodeError → α) (next : α) :
    checkFrame L err (sealFrame p) next = next := by
  subst hlen
  have hcrc : byteAt (sealFrame p) p.length = crc8 p := byteAt_append_length_add p [crc8 p, Config.eof] 0
  have hend : byteAt (sealFrame p) (p.length + 1) = Config.eof := byteAt_append_length_add p [crc8 p, Config.eof] 1
  have htake : (sealFrame p).take p.length = p := List.take_left
  refine checkFrame_of_start (Nat.le_of_eq (sealFrame_length p).symm) hend ?_ ?_
  · rw [Nat.add_sub_cancel, hcrc, htake]
  · rw [sealFrame, byteAt_append_of_lt hpos, hstart]

end Sys2Proof.Machine
end

section
/-! PROOFS. DEC (spec/40_frame_codec.md R96): the first defect decides, and no byte past EXPLEN is examined. -/

namespace Sys2Proof.Machine

theorem statusLegal_iff (st : Byte) : statusLegal st = true ↔ st.extractLsb' 2 6 = 0 := beq_iff_eq

theorem decValues_append {op : Opcode} {s : List Byte} (hlen : explenOf op ≤ s.length) (more : List Byte) :
    decValues op (s ++ more) = decValues op s := by
  have hbyte (i : Nat) (hi : i < explenOf op) := byteAt_append_of_lt (Nat.lt_of_lt_of_le hi hlen) more
  cases op with
  | read =>
    simp only [decValues, unbe32At, hbyte 2 (by decide), hbyte 3 (by decide), hbyte 4 (by decide),
      hbyte 5 (by decide), hbyte 6 (by decide)]
  | write => simp only [decValues, hbyte 2 (by decide)]

theorem dec_append {op : Opcode} {s : List Byte} (hlen : explenOf op ≤ s.length) (more : List Byte) :
    dec op (s ++ more) = dec op s := by
  have hlong : explenOf op ≤ (s ++ more).length := by rw [List.length_append]; omega
  have h5 : 5 ≤ explenOf op := by cases op <;> decide
  have hbyte (i : Nat) (hi : i < s.length) := byteAt_append_of_lt hi more
  have htake : (s ++ more).take (explenOf op - 2) = s.take (explenOf op - 2) :=
    List.take_append_of_le_length (by omega)
  simp only [dec, Nat.not_lt.mpr hlen, Nat.not_lt.mpr hlong, htake, decValues_append hlen,
    hbyte (explenOf op - 1) (by omega), hbyte (explenOf op - 2) (by omega), hbyte 0 (by omega),
    hbyte 1 (by omega), hbyte 2 (by omega)]

/-- Settles O8: the clauses are the shared checks and then those of DEC in their order, L being EXPLEN of the
operation. -/
theorem decoderReportsTheFirstDefect : Obligations.DecoderReportsTheFirstDefect := by
  unfold Obligations.DecoderReportsTheFirstDefect
  intro op L tag hop s
  obtain ⟨rfl, rfl⟩ : L = explenOf op ∧ tag = opTag op := by
    rcases hop with ⟨rfl, rfl, rfl⟩ | ⟨rfl, rfl, rfl⟩ <;> exact ⟨rfl, rfl⟩
  refine ⟨checkFrame_of_short, fun hlen => ⟨checkFrame_of_end_ne, fun hend => ⟨checkFrame_of_crc_ne hlen hend,
    fun hcrc => ⟨checkFrame_of_start_ne hlen hend hcrc, fun hstart => ?_⟩⟩, dec_append hlen⟩⟩
  rw [dec_eq_checkFrame, checkFrame_of_start hlen hend hcrc hstart]
  refine ⟨fun htag => if_pos htag, fun (htag : byteAt s 1 = opTag op) => ?_⟩
  rw [if_neg (not_not_intro htag)]
  have hlegal := statusLegal_iff (byteAt s 2)
  refine ⟨fun hreserved => if_pos (Bool.eq_false_iff.mpr (mt hlegal.mp hreserved)), fun hzero => ?_⟩
  rw [hlegal.mpr hzero]
  exact ⟨by rintro rfl; rfl, by rintro rfl; rfl⟩

end Sys2Proof.Machine
end

section
/-! PROOFS. DECREQ (spec/40_frame_codec.md R100): the received OP byte gives the length, then come the shared checks. -/

namespace Sys2Proof.Machine

theorem exec_decReq (bytes : List Byte) (s : State) :
    exec (.decReq bytes) s = .next { s with opResult := .request (decReq bytes) } := rfl

theorem opOfTag_eq_none {t : Byte} (hr : t ≠ Config.tagRead) (hw : t ≠ Config.tagWrite) : opOfTag t = none := by
  rw [opOfTag, if_neg hr, if_neg hw]

theorem decReq_of_short {s : List Byte} (h : s.length < 2) : decReq s = .err .truncated := if_pos h

theorem decReq_of_reserved_tag {s : List Byte} (h2 : 2 ≤ s.length) (hr : byteAt s 1 ≠ Config.tagRead)
    (hw : byteAt s 1 ≠ Config.tagWrite) : decReq s = .err .opcode := by
  rw [decReq, if_neg (Nat.not_lt.mpr h2), opOfTag_eq_none hr hw]

/-- A known OP byte decides the length and the values (R100). -/
theorem decReq_of_tag {op : Opcode} {s : List Byte} (h2 : 2 ≤ s.length) (htag : byteAt s 1 = opTag op) :
    decReq s = checkFrame (txlenOf op) .err s (decReqValues op s) := by
  rw [decReq, if_neg (Nat.not_lt.mpr h2), htag, opOfTag_opTag, ← decReqBody_eq_checkFrame]

/-- Settles O12: the clauses are those of DECREQ before the length is known, and then the shared checks, L being TXLENOF
of the operation that the OP byte names. -/
theorem requestDecoderReportsTheFirstDefect : Obligations.RequestDecoderReportsTheFirstDefect := by
  unfold Obligations.RequestDecoderReportsTheFirstDefect
  refine ⟨exec_decReq, fun s => ⟨decReq_of_short, decReq_of_reserved_tag, fun L h2 hL => ?_⟩⟩
  obtain ⟨op, htag, rfl⟩ : ∃ op, byteAt s 1 = opTag op ∧ L = txlenOf op := by
    rcases hL with ⟨ht, rfl⟩ | ⟨ht, rfl⟩
    · exact ⟨.read, ht, rfl⟩
    · exact ⟨.write, ht, rfl⟩
  rw [decReq_of_tag h2 htag]
  refine ⟨?_, fun hlen hend => ⟨checkFrame_of_crc_ne hlen hend, fun hcrc =>
    ⟨checkFrame_of_start_ne hlen hend hcrc, fun hstart => ?_⟩⟩⟩
  · rintro (hshort | hend)
    · exact checkFrame_of_short hshort
    · exact checkFrame_of_end_ne hend
  · rw [checkFrame_of_start hlen hend hcrc hstart]
    cases op with
    | read => exact ⟨fun _ => rfl, fun h => absurd h (by decide)⟩
    | write => exact ⟨fun h => absurd h (by decide), fun _ => rfl⟩

end Sys2Proof.Machine
end

section
/-! PROOFS. The codec's round trips (spec/40_frame_codec.md R101). -/

namespace Sys2Proof.Machine

/-! Requests: DECREQ undoes ENC. -/

theorem checkFrame_enc {α : Type} (op : Opcode) (a d : Word) (err : DecodeError → α) (next : α) :
    checkFrame (txlenOf op) err (enc op a d) next = next := by
  cases op with
  | read => exact checkFrame_sealFrame (p := reqReadPayload a) rfl (Nat.succ_pos _) rfl err next
  | write => exact checkFrame_sealFrame (p := reqWritePayload a d) rfl (Nat.succ_pos _) rfl err next

theorem decReq_enc (op : Opcode) (a d : Word) : decReq (enc op a d) = decReqValues op (enc op a d) := by
  have htag : byteAt (enc op a d) 1 = opTag op := by cases op <;> rfl
  have h2 : 2 ≤ (enc op a d).length := by rw [enc_length]; cases op <;> decide
  rw [decReq_of_tag h2 htag, checkFrame_enc]

theorem decReq_encRead (a : Word) : decReq (encRead a) = .okRead a :=
  (decReq_enc .read a 0).trans (congrArg ReqResult.okRead (joinBytes_be32 a))

theorem decReq_encWrite (a d : Word) : decReq (encWrite a d) = .okWrite a d :=
  (decReq_enc .write a d).trans (congr (congrArg ReqResult.okWrite (joinBytes_be32 a)) (joinBytes_be32 d))

/-! What DECREQ recovers, ENC cannot have lost. -/

theorem encRead_injective : Function.Injective encRead := by
  intro a a' h
  have := congrArg decReq h
  rwa [decReq_encRead, decReq_encRead, ReqResult.okRead.injEq] at this

theorem encWrite_inj {a a' d d' : Word} (h : encWrite a d = encWrite a' d') : a = a' ∧ d = d' := by
  have := congrArg decReq h
  rwa [decReq_encWrite, decReq_encWrite, ReqResult.okWrite.injEq] at this

theorem encRead_ne_encWrite (a a' d' : Word) : encRead a ≠ encWrite a' d' := by
  intro h
  have := congrArg decReq h
  rw [decReq_encRead, decReq_encWrite] at this
  cases this

/-! Responses: DEC of a READ and RSPENC.READ are inverse, as `dec_write_rspEncWrite` and
`eq_rspEncWrite_of_dec_write` say of a WRITE. -/

/-- The status values RSPENC is given (R101) are those with no reserved bit set. -/
theorem statusLegal_of_le {st : Byte} (h : st ≤ 3) : statusLegal st = true := by
  revert st; decide

theorem checkFrame_rspEncRead {α : Type} (st : Byte) (v : Word) (err : DecodeError → α) (next : α) :
    checkFrame (explenOf .read) err (rspEncRead st v) next = next :=
  checkFrame_sealFrame (p := rspReadPayload st v) rfl (Nat.succ_pos _) rfl err next

theorem dec_read_rspEncRead {st : Byte} (h : statusLegal st = true) (v : Word) :
    dec .read (rspEncRead st v) = .okRead st v := by
  have hstatus : byteAt (rspEncRead st v) 2 = st := rfl
  have htag : byteAt (rspEncRead st v) 1 = opTag .read := rfl
  rw [dec_eq_checkFrame, checkFrame_rspEncRead, if_neg (not_not_intro htag), hstatus, h]
  exact congrArg (DecResult.okRead st) (joinBytes_be32 v)

theorem rspReadPayload_joinBytes (st b0 b1 b2 b3 : Byte) :
    rspReadPayload st (joinBytes b0 b1 b2 b3) = [Config.sof, Config.tagRead, st, b0, b1, b2, b3] := by
  rw [rspReadPayload, be32_joinBytes]; rfl

theorem eq_rspEncRead_of_dec_read {bytes : List Byte} {st : Byte} {v : Word} (hlen : bytes.length = 9)
    (h : dec .read bytes = .okRead st v) : bytes = rspEncRead st v := by
  obtain ⟨_, hend, hcrc, hstart, htag, _, hval⟩ := dec_ok (op := .read) (s := bytes) (by rw [h]; rfl)
  obtain ⟨rfl, rfl⟩ : byteAt bytes 2 = st ∧ unbe32At bytes 3 = v := by simpa [h, decValues, eq_comm] using hval
  match bytes, hlen with
  | [b0, b1, b2, b3, b4, b5, b6, b7, b8], _ =>
    obtain ⟨rfl, rfl, rfl⟩ : b0 = Config.sof ∧ b1 = Config.tagRead ∧ b8 = Config.eof := ⟨hstart, htag, hend⟩
    obtain rfl : b7 = crc8 [Config.sof, Config.tagRead, b2, b3, b4, b5, b6] := hcrc
    exact (congrArg sealFrame (rspReadPayload_joinBytes b2 b3 b4 b5 b6)).symm

/-- Settles O13: DECREQ undoes ENC, which makes ENC injective, and DEC is inverse to RSPENC in both directions. -/
theorem codecRoundTrip : Obligations.CodecRoundTrip := by
  unfold Obligations.CodecRoundTrip
  exact ⟨decReq_encRead, decReq_encWrite,
    fun _ v hst => dec_read_rspEncRead (statusLegal_of_le hst) v,
    fun _ hst => dec_write_rspEncWrite (statusLegal_of_le hst),
    fun _ _ _ hlen h => eq_rspEncRead_of_dec_read hlen h,
    fun _ _ hlen h => (eq_rspEncWrite_of_dec_write hlen h).2,
    encRead_injective, fun _ _ _ _ => encWrite_inj, encRead_ne_encWrite⟩

end Sys2Proof.Machine
end

section
/-! PROOFS. The commands at an idle engine (spec/41_transaction_engine.md R122 to R124): CONNECT, READ and WRITE do the
same as command words and as T1 to T3. -/

namespace Sys2Proof.Machine

/-- What stands at the interface is read by its decoder (R74). -/
theorem presented_of_cmd {s : State} {c : Command} (h : s.cmd = some c) : presented s = some (decodeInterface c) := by
  rw [presented, h, Option.map_some]

theorem exec_connect_of_idle (dev : DevId) (baud : Word) {s : State} (h : s.teState = .idle) :
    exec (.connect dev baud) s = .next (acceptConnect dev baud s) := by
  simp [exec, execConnect, busy_eq_false_of_idle h]

theorem exec_t1_of_presented {dev : DevId} {baud : Word} {s : State} (h : s.teState = .idle)
    (hp : presented s = some (.connect dev baud)) : exec .t1 s = .next (acceptConnect dev baud s) := by
  simp [exec, execT1, h, hp]

theorem exec_t2_of_presented {addr : AddrIn} {ignored : Word} {s : State} (h : s.teState = .idle)
    (hp : presented s = some (.read addr ignored)) : exec .t2 s = .next (acceptRequest .read addr 0 s) := by
  simp [exec, execT2, h, hp]

theorem exec_t3_of_presented {addr : AddrIn} {data : Word} {s : State} (h : s.teState = .idle)
    (hp : presented s = some (.write addr data)) : exec .t3 s = .next (acceptRequest .write addr data s) := by
  simp [exec, execT3, h, hp]

/-! READ and WRITE acceptance as a whole next state. -/

theorem complete_eq (op : Opcode) (st : Byte) (s : State) : complete op st s =
    { s with resStatus := st, teState := .idle, trace := s.trace ++ [doneEvent op st s] } := rfl

theorem acceptRequest_of_open (op : Opcode) (addr : AddrIn) (data : Word) {s : State} (hopen : s.chOpen = true) :
    acceptRequest op addr data s =
      { s with cmd := none, reqOp := opTag op, reqAddr := addr.extractLsb' 0 32, reqData := data, attempt := 1,
               teState := .prep } := by
  rw [acceptRequest, if_pos hopen, trunc32_eq_extractLsb', withdraw]

theorem acceptRequest_of_closed (op : Opcode) (addr : AddrIn) (data : Word) {s : State} (hidle : s.teState = .idle)
    (hclosed : s.chOpen = false) :
    acceptRequest op addr data s =
      { s with cmd := none, resStatus := Config.eNotOpen,
               trace := s.trace ++ [doneEvent op Config.eNotOpen (withdraw s)] } := by
  rw [acceptRequest, if_neg (by simp [hclosed]), raise_eq, complete_eq, ← hidle, withdraw]

/-- Settles O28: both forms of READ run acceptance, whose two branches are those of the statement. -/
theorem readAcceptance : Obligations.ReadAcceptance := by
  unfold Obligations.ReadAcceptance
  intro addr x s hidle i hi
  have hexec : exec i s = .next (acceptRequest .read addr 0 s) := by
    rcases hi with rfl | ⟨rfl, hcmd⟩
    · exact exec_read_of_idle addr x hidle
    · exact exec_t2_of_presented hidle ((presented_of_cmd hcmd).trans (congrArg some (decodeCommand_read addr x)))
  refine ⟨_, hexec, fun hopen => ?_, fun hclosed => ?_⟩
  · rw [acceptRequest_of_open _ _ _ hopen]; rfl
  · rw [acceptRequest_of_closed _ _ _ hidle hclosed]; rfl

/-- Settles O29: both forms of WRITE run acceptance, whose two branches are those of the statement. -/
theorem writeAcceptance : Obligations.WriteAcceptance := by
  unfold Obligations.WriteAcceptance
  intro addr data s hidle i hi
  have hexec : exec i s = .next (acceptRequest .write addr data s) := by
    rcases hi with rfl | ⟨rfl, hcmd⟩
    · exact exec_write_of_idle addr data hidle
    · exact exec_t3_of_presented hidle ((presented_of_cmd hcmd).trans (congrArg some (decodeCommand_write addr data)))
  refine ⟨_, hexec, fun hopen => ?_, fun hclosed => ?_⟩
  · rw [acceptRequest_of_open _ _ _ hopen]; rfl
  · rw [acceptRequest_of_closed _ _ _ hidle hclosed]; rfl

end Sys2Proof.Machine
end

section
/-! PROOFS. CONNECT (spec/41_transaction_engine.md R122, spec/42_serial_adapter.md R161): the environment's answer
decides whether the channel is open. -/

namespace Sys2Proof.Machine

theorem openAnswer_of_cons {s : State} {r : Bool} {rest : List Bool} (h : s.openAnswers = r :: rest) (dev : DevId)
    (baud : Word) : openAnswer dev baud s = r := by
  rw [openAnswer, h]

/-- The answer to an open is the list's head, or a draw where the list is empty (notes/assumptions/5). -/
theorem takeOpenAnswer_eq_tail (s : State) : takeOpenAnswer s =
    { s with openAnswers := s.openAnswers.tail,
             draws := if s.openAnswers = [] then s.draws + 1 else s.draws } := by
  cases h : s.openAnswers with
  | nil => simp [takeOpenAnswer, h]
  | cons r rest => simp [takeOpenAnswer, h]

theorem saOpen_eq_answer (dev : DevId) (baud : Word) (s : State) : saOpen dev baud s =
    { s with chOpen := openAnswer dev baud s,
             cfgDev := if openAnswer dev baud s then dev else s.cfgDev,
             cfgBaud := if openAnswer dev baud s then baud else s.cfgBaud,
             rxbuf := [], rxErr := false, openAnswers := s.openAnswers.tail,
             draws := if s.openAnswers = [] then s.draws + 1 else s.draws } := by
  rw [saOpen, takeOpenAnswer_eq_tail]
  cases openAnswer dev baud s <;> rfl

/-- The next state of a CONNECT, for every answer (R122). -/
theorem acceptConnect_eq (dev : DevId) (baud : Word) {s : State} (hidle : s.teState = .idle) :
    acceptConnect dev baud s =
      { s with chOpen := openAnswer dev baud s,
               cfgDev := if openAnswer dev baud s then dev else s.cfgDev,
               cfgBaud := if openAnswer dev baud s then baud else s.cfgBaud,
               rxbuf := [], rxErr := false, resConn := openAnswer dev baud s, cmd := none,
               openAnswers := s.openAnswers.tail,
               draws := if s.openAnswers = [] then s.draws + 1 else s.draws,
               trace := s.trace ++ [.doneConnect (openAnswer dev baud s)] } := by
  rw [acceptConnect, saOpen_eq_answer, ← hidle]; rfl

/-- The next state of a CONNECT whose answer is listed (R122). -/
theorem acceptConnect_of_cons (dev : DevId) (baud : Word) {s : State} {ok : Bool} {rest : List Bool}
    (hidle : s.teState = .idle) (h : s.openAnswers = ok :: rest) :
    acceptConnect dev baud s =
      { s with chOpen := ok, cfgDev := if ok then dev else s.cfgDev, cfgBaud := if ok then baud else s.cfgBaud,
               rxbuf := [], rxErr := false, resConn := ok, cmd := none, openAnswers := rest,
               trace := s.trace ++ [.doneConnect ok] } := by
  rw [acceptConnect_eq dev baud hidle, openAnswer_of_cons h, h, if_neg (List.cons_ne_nil ok rest), List.tail_cons]

/-- R122, corner case (b): a second CONNECT with the same operands and answer leaves the block as the first does. -/
theorem acceptConnect_twice (dev : DevId) (baud : Word) {s : State} {ok : Bool} {rest : List Bool}
    (hidle : s.teState = .idle) (h : s.openAnswers = ok :: ok :: rest) :
    acceptConnect dev baud (acceptConnect dev baud s) =
      { acceptConnect dev baud s with
        openAnswers := rest
        trace := (acceptConnect dev baud s).trace ++ [.doneConnect ok] } := by
  have hnext : (acceptConnect dev baud s).openAnswers = ok :: rest := by rw [acceptConnect_of_cons dev baud hidle h]
  rw [acceptConnect_of_cons dev baud rfl hnext, acceptConnect_of_cons dev baud hidle h]
  cases ok <;> rfl

/-- T1 meets a CONNECT in either of its two forms at the interface (R74). -/
theorem cmd_eq_connectCommand {s : State} {dev : DevId} {baud : Word}
    (h : (∃ v, dev = .token v ∧ s.cmd = some (.word (commandWord 0b11 v baud))) ∨
      ∃ name, dev = .wide name ∧ s.cmd = some (.wideConnect name baud)) :
    s.cmd = some (connectCommand dev baud) := by
  rcases h with ⟨v, rfl, hcmd⟩ | ⟨name, rfl, hcmd⟩ <;> exact hcmd

/-- Settles O27: both forms of CONNECT run `acceptConnect`, whose next state the answer decides. -/
theorem connectOpensOrCloses : Obligations.ConnectOpensOrCloses := by
  unfold Obligations.ConnectOpensOrCloses
  intro dev baud rest s hidle i hi
  have hexec : exec i s = .next (acceptConnect dev baud s) := by
    rcases hi with rfl | ⟨rfl, hcmd⟩
    · exact exec_connect_of_idle dev baud hidle
    · refine exec_t1_of_presented hidle ?_
      rw [presented_of_cmd (cmd_eq_connectCommand hcmd), decodeInterface_connectCommand]
  have hidle' : (acceptConnect dev baud s).teState = .idle := rfl
  refine ⟨_, hexec, fun h => ?_, fun h => ?_, fun h => ⟨openAnswer dev baud s, ?_⟩, fun ok h =>
    ⟨_, exec_connect_of_idle dev baud hidle', ?_⟩⟩
  · rw [acceptConnect_of_cons dev baud hidle h]; rfl
  · rw [acceptConnect_of_cons dev baud hidle h]; rfl
  · rw [acceptConnect_eq dev baud hidle, if_pos h, h]; rfl
  · rw [acceptConnect_twice dev baud hidle h]

end Sys2Proof.Machine
end

section
/-! PROOFS. Sending (spec/41_transaction_engine.md R126, R127): T5 and T6 by the line's answer. -/

namespace Sys2Proof.Machine

/-- An operation is read back from its own tag (R71). -/
theorem opOfTag_of_eq {t : Byte} {op : Opcode} (h : t = opTag op) : opOfTag t = some op := by
  rw [h, opOfTag_opTag]

theorem nextTxByte_of_lt {s : State} (h : s.txidx.toNat < 12) : nextTxByte s = some s.txbuf[s.txidx.toNat] :=
  Vector.getElem?_eq_getElem h

/-- The answer to a send is the list's head, or a draw where the list is empty (notes/assumptions/5). -/
theorem takeLineAnswer_eq_tail (s : State) : takeLineAnswer s =
    { s with sendAnswers := s.sendAnswers.tail,
             draws := if s.sendAnswers = [] then s.draws + 1 else s.draws } := by
  cases h : s.sendAnswers with
  | nil => simp [takeLineAnswer, h]
  | cons r rest => simp [takeLineAnswer, h]

/-- A send that is answered ok emits the byte (R162); it is on an open channel. -/
theorem saSend_of_ok (b : Byte) {s : State} (h : sendResult s = true) : saSend b s =
    { s with trace := s.trace ++ [.tx b], sendAnswers := s.sendAnswers.tail,
             draws := if s.sendAnswers = [] then s.draws + 1 else s.draws } := by
  obtain ⟨hopen, hline⟩ : s.chOpen = true ∧ lineAnswer s = true := by simpa [sendResult] using h
  rw [saSend, if_pos hopen, if_pos hline, takeLineAnswer_eq_tail, emit]

/-- A send that the line answers fail emits nothing (R162). -/
theorem saSend_of_fail (b : Byte) {s : State} (hopen : s.chOpen = true) (h : sendResult s = false) : saSend b s =
    { s with sendAnswers := s.sendAnswers.tail,
             draws := if s.sendAnswers = [] then s.draws + 1 else s.draws } := by
  have hline : lineAnswer s = false := by simpa [sendResult, hopen] using h
  rw [saSend, if_pos hopen, if_neg (by simp [hline]), takeLineAnswer_eq_tail]

theorem afterSend_of_last {s : State} (h : s.txidx.toNat + 1 = s.txlen.toNat) :
    afterSend s = { s with timer := s.params.respTicks, teState := .await } := if_pos h

theorem afterSend_of_more {s : State} (h : s.txidx.toNat + 1 ≠ s.txlen.toNat) :
    afterSend s = { s with txidx := s.txidx + 1 } := if_neg h

theorem exec_t5_of_sent {s : State} (hidx : s.txidx.toNat < 12) (htx : s.teState = .tx)
    (hsent : sendResult s = true) : exec .t5 s = .next (afterSend (saSend s.txbuf[s.txidx.toNat] s)) := by
  simp [exec, execT5, htx, hsent, nextTxByte_of_lt hidx]

theorem exec_t6_of_failed {s : State} {op : Opcode} (hidx : s.txidx.toNat < 12) (htx : s.teState = .tx)
    (hfail : sendResult s = false) (hop : opOfTag s.reqOp = some op) :
    exec .t6 s = .next (complete op Config.eTxFail (saSend s.txbuf[s.txidx.toNat] s)) := by
  simp [exec, execT6, htx, hfail, nextTxByte_of_lt hidx, withLatchedOp_some hop]

/-- Settles O35: T5 is the ok branch of SA.SEND, followed by the test for the last byte. -/
theorem sendOneByte : Obligations.SendOneByte := by
  unfold Obligations.SendOneByte
  intro s hidx htx hsent
  rw [exec_t5_of_sent hidx htx hsent, saSend_of_ok _ hsent]
  exact ⟨fun hlast => congrArg _ (afterSend_of_last hlast), fun hmore => congrArg _ (afterSend_of_more hmore)⟩

/-- Settles O36: T6 is the fail branch of SA.SEND, followed by the completion with E_TX_FAIL. -/
theorem sendFailureIsNeverRetried : Obligations.SendFailureIsNeverRetried := by
  unfold Obligations.SendFailureIsNeverRetried
  intro s hidx htx hopen hfail
  have hexec (op : Opcode) (hop : s.reqOp = opTag op) := exec_t6_of_failed hidx htx hfail (opOfTag_of_eq hop)
  rw [saSend_of_fail _ hopen hfail] at hexec
  exact ⟨hexec .read, hexec .write⟩

end Sys2Proof.Machine
end

section
/-! PROOFS. Waiting for the response (spec/41_transaction_engine.md R128 to R130, R133): AWAIT by the result of
SA.RECV. -/

namespace Sys2Proof.Machine

/-! SA.RECV by its priority (R163, R191). -/

theorem recvResult_of_rxErr {s : State} (h : s.rxErr = true) : recvResult s = .error := if_pos h

theorem recvResult_of_byte {s : State} {b : Byte} {rest : List Byte} (herr : s.rxErr = false)
    (hbuf : s.rxbuf = b :: rest) : recvResult s = .byte b := by
  simp [recvResult, herr, hbuf]

theorem recvResult_of_timeout {s : State} (herr : s.rxErr = false) (hbuf : s.rxbuf = []) (htimer : s.timer = 0) :
    recvResult s = .timeout := by
  simp [recvResult, herr, hbuf, htimer]

theorem saRecv_of_byte {s : State} {b : Byte} {rest : List Byte} (herr : s.rxErr = false)
    (hbuf : s.rxbuf = b :: rest) : saRecv s = { s with rxbuf := rest } := by
  rw [saRecv, recvResult_of_byte herr hbuf, hbuf, List.tail_cons]

theorem afterStore_of_last {s : State} (h : s.rxidx.toNat + 1 = s.explen.toNat) :
    afterStore s = { s with rxidx := s.explen, teState := .decode } := if_pos h

theorem afterStore_of_more {s : State} (h : s.rxidx.toNat + 1 ≠ s.explen.toNat) :
    afterStore s = { s with rxidx := s.rxidx + 1 } := if_neg h

theorem storeByte_of_lt (b : Byte) {s : State} (h : s.rxidx.toNat < 9) :
    storeByte b s = .next (afterStore { s with rxfrm := s.rxfrm.set s.rxidx.toNat b h }) := dif_pos h

theorem exec_t7_of_byte {s : State} {b : Byte} (hawait : s.teState = .await) (hrecv : recvResult s = .byte b) :
    exec .t7 s = storeByte b (saRecv s) := by
  simp [exec, execT7, hawait, hrecv]

/-- Settles O37: T7 takes the byte SA.RECV answers and tests for the last byte; TIMER takes no part. -/
theorem collectOneByte : Obligations.CollectOneByte := by
  unfold Obligations.CollectOneByte
  intro b rest s h hawait herr hbuf
  rw [exec_t7_of_byte hawait (recvResult_of_byte herr hbuf), saRecv_of_byte herr hbuf,
    storeByte_of_lt b (s := { s with rxbuf := rest }) h]
  exact ⟨fun hlast => congrArg _ (afterStore_of_last hlast), fun hmore => congrArg _ (afterStore_of_more hmore)⟩

/-! A failed wait (R129, R130). -/

theorem attemptFailed_of_below (op : Opcode) {s : State} (h : s.attempt ≠ s.params.maxAttempts) :
    attemptFailed op s = { s with attempt := s.attempt + 1, teState := .prep } := if_neg h

theorem attemptFailed_at_limit (op : Opcode) {s : State} (h : s.attempt = s.params.maxAttempts) :
    attemptFailed op s = complete op Config.eNoResponse s := if_pos h

theorem exec_t8_of_error {s : State} {op : Opcode} (hawait : s.teState = .await) (hrecv : recvResult s = .error)
    (hop : opOfTag s.reqOp = some op) : exec .t8 s = .next (attemptFailed op s) := by
  simp [exec, execT8, hawait, hrecv, withLatchedOp_some hop]

theorem exec_t9_of_timeout {s : State} {op : Opcode} (hawait : s.teState = .await) (hrecv : recvResult s = .timeout)
    (hop : opOfTag s.reqOp = some op) : exec .t9 s = .next (attemptFailed op s) := by
  simp [exec, execT9, hawait, hrecv, withLatchedOp_some hop]

theorem exec_t7_of_error {s : State} (hrecv : recvResult s = .error) :
    exec .t7 s = .refused (.stepNotEnabled "T7") := by
  simp [exec, execT7, hrecv]

theorem exec_t9_of_error {s : State} (hrecv : recvResult s = .error) :
    exec .t9 s = .refused (.stepNotEnabled "T9") := by
  simp [exec, execT9, hrecv]

/-- Settles O38: T8 and T9 are AttemptFailed of the latched operation, which the limit decides. -/
theorem failedWaitRetriesUpToTheLimit : Obligations.FailedWaitRetriesUpToTheLimit := by
  unfold Obligations.FailedWaitRetriesUpToTheLimit
  intro s hawait
  refine ⟨fun herr => ⟨exec_t7_of_error (recvResult_of_rxErr herr), exec_t9_of_error (recvResult_of_rxErr herr)⟩,
    fun i hi => ?_⟩
  have hexec (op : Opcode) (hop : s.reqOp = opTag op) : exec i s = .next (attemptFailed op s) := by
    rcases hi with ⟨rfl, herr⟩ | ⟨rfl, herr, hbuf, htimer⟩
    · exact exec_t8_of_error hawait (recvResult_of_rxErr herr) (opOfTag_of_eq hop)
    · exact exec_t9_of_timeout hawait (recvResult_of_timeout herr hbuf htimer) (opOfTag_of_eq hop)
  refine ⟨fun hbelow hop => ?_, fun hlimit hop => ?_, fun hlimit hop => ?_⟩
  · rcases hop with hop | hop
    · rw [hexec .read hop, attemptFailed_of_below .read hbelow]
    · rw [hexec .write hop, attemptFailed_of_below .write hbelow]
  · rw [hexec .read hop, attemptFailed_at_limit .read hlimit]; rfl
  · rw [hexec .write hop, attemptFailed_at_limit .write hlimit]; rfl

end Sys2Proof.Machine
end

section
/-! PROOFS. A decoded response (spec/41_transaction_engine.md R131) completes the command, whatever the attempt. -/

namespace Sys2Proof.Machine

theorem judge_of_okRead {op : Opcode} {bytes : List Byte} {st : Byte} {v : Word} (h : dec op bytes = .okRead st v)
    (s : State) : judge op bytes s = complete .read st { s with rdata := v } := by
  rw [judge, h]

theorem judge_of_okWrite {op : Opcode} {bytes : List Byte} {st : Byte} (h : dec op bytes = .okWrite st) (s : State) :
    judge op bytes s = complete .write st s := by
  rw [judge, h]

theorem exec_t10_of_decodedOk {s : State} {op : Opcode} (hdecode : s.teState = .decode)
    (hop : opOfTag s.reqOp = some op) (hok : decodedOk (dec op (collected s)) = true) :
    exec .t10 s = .next (judge op (collected s) s) := by
  simp [exec, execT10, hdecode, withLatchedOp_some hop, hok]

/-- Settles O39: an Ok of DEC on the collected bytes makes T10 complete with the decoded values. -/
theorem decodedResponseCompletes : Obligations.DecodedResponseCompletes := by
  unfold Obligations.DecodedResponseCompletes
  intro s st v hdecode
  refine ⟨fun hop (hdec : dec .read (collected s) = .okRead st v) => ?_,
    fun hop (hdec : dec .write (collected s) = .okWrite st) => ?_⟩
  · have hok : decodedOk (dec .read (collected s)) = true := by rw [hdec]; rfl
    rw [exec_t10_of_decodedOk hdecode (opOfTag_of_eq (op := .read) hop) hok, judge_of_okRead hdec]; rfl
  · have hok : decodedOk (dec .write (collected s)) = true := by rw [hdec]; rfl
    rw [exec_t10_of_decodedOk hdecode (opOfTag_of_eq (op := .write) hop) hok, judge_of_okWrite hdec]; rfl

end Sys2Proof.Machine
end

section
/-! PROOFS. The adapter's primitives as instructions (spec/42_serial_adapter.md R161 to R164): each is the operation of
its name, with what it returned in the result field. -/

namespace Sys2Proof.Machine

theorem exec_saOpen (dev : DevId) (baud : Word) (s : State) : exec (.saOpen dev baud) s =
    .next (answer (.answered (openAnswer dev baud s)) (saOpen dev baud s)) := rfl

theorem exec_saSend (b : Byte) (s : State) : exec (.saSend b) s =
    .next (answer (.answered (sendResult s)) (saSend b s)) := rfl

theorem exec_saRecv (s : State) : exec .saRecv s = .next (answer (.received (recvResult s)) (saRecv s)) := rfl

theorem exec_saFlush (s : State) : exec .saFlush s = .next (saFlush s) := rfl

/-! SA.OPEN (R161). -/

/-- Settles O20: `saOpen_eq_answer` gives the next state from the answer, which is the list's head or a draw. -/
theorem openResult : Obligations.OpenResult := by
  unfold Obligations.OpenResult
  intro dev baud rest s
  rw [exec_saOpen, saOpen_eq_answer]
  refine ⟨fun h => ?_, fun h => ?_, fun h => ⟨openAnswer dev baud s, ?_⟩⟩
  · rw [openAnswer_of_cons h, h]; rfl
  · rw [openAnswer_of_cons h, h]; rfl
  · rw [if_pos h, h]; rfl

/-! SA.SEND (R162). -/

theorem lineAnswer_of_cons {s : State} {r : Bool} {rest : List Bool} (h : s.sendAnswers = r :: rest) :
    lineAnswer s = r := by
  rw [lineAnswer, h]

theorem sendResult_of_open {s : State} (hopen : s.chOpen = true) : sendResult s = lineAnswer s := by
  rw [sendResult, hopen, Bool.true_and]

theorem exec_saSend_of_closed (b : Byte) {s : State} (hclosed : s.chOpen = false) :
    exec (.saSend b) s = .next { s with opResult := .answered false } := by
  have hfail : sendResult s = false := by rw [sendResult, hclosed, Bool.false_and]
  have hsame : saSend b s = s := if_neg (by simp [hclosed])
  rw [exec_saSend, hfail, hsame, answer]

/-- SA.SEND on an open channel, for every answer of the line. -/
theorem exec_saSend_of_open (b : Byte) {s : State} (hopen : s.chOpen = true) : exec (.saSend b) s = .next
    { s with trace := if lineAnswer s then s.trace ++ [.tx b] else s.trace,
             sendAnswers := s.sendAnswers.tail,
             draws := if s.sendAnswers = [] then s.draws + 1 else s.draws,
             opResult := .answered (lineAnswer s) } := by
  rw [exec_saSend, ← sendResult_of_open hopen]
  cases hr : sendResult s with
  | true => rw [saSend_of_ok b hr]; rfl
  | false => rw [saSend_of_fail b hopen hr]; rfl

/-- Settles O21: a closed channel fails at once; on an open one the line's answer, the list's head or a draw, decides.
(The model's own `sendResult` has the plain name.) -/
theorem Adapter.sendResult : Obligations.SendResult := by
  unfold Obligations.SendResult
  intro b rest s
  refine ⟨exec_saSend_of_closed b, fun hopen h => ?_, fun hopen h => ?_, fun hopen h => ⟨lineAnswer s, ?_⟩⟩
  · rw [exec_saSend_of_open b hopen, lineAnswer_of_cons h, h]; rfl
  · rw [exec_saSend_of_open b hopen, lineAnswer_of_cons h, h]; rfl
  · rw [exec_saSend_of_open b hopen, if_pos h, h]; rfl

/-! SA.RECV (R163). -/

theorem recvResult_of_wait {s : State} (herr : s.rxErr = false) (hbuf : s.rxbuf = []) (htimer : 0 < s.timer) :
    recvResult s = .wait := by
  simp [recvResult, herr, hbuf, Nat.ne_of_gt htimer]

theorem exec_saRecv_of_byte {s : State} {b : Byte} {rest : List Byte} (herr : s.rxErr = false)
    (hbuf : s.rxbuf = b :: rest) :
    exec .saRecv s = .next { s with rxbuf := rest, opResult := .received (.byte b) } := by
  rw [exec_saRecv, recvResult_of_byte herr hbuf, saRecv_of_byte herr hbuf, answer]

/-- Only a received byte changes RXBUF; the other results change nothing but the result field. -/
theorem exec_saRecv_of_ne_byte {s : State} {r : RecvResult} (hr : recvResult s = r) (hne : ∀ b, r ≠ .byte b) :
    exec .saRecv s = .next { s with opResult := .received r } := by
  have hsame : saRecv s = s := by
    rw [saRecv, hr]
    cases r with
    | byte b => exact absurd rfl (hne b)
    | error | timeout | wait => rfl
  rw [exec_saRecv, hr, hsame, answer]

/-- Settles O22: one clause per result of SA.RECV, by the lemma that says when it is the result. -/
theorem receiveByPriority : Obligations.ReceiveByPriority := by
  unfold Obligations.ReceiveByPriority
  intro s
  exact ⟨fun herr => exec_saRecv_of_ne_byte (recvResult_of_rxErr herr) nofun,
    fun _ _ => exec_saRecv_of_byte,
    fun herr hbuf htimer => exec_saRecv_of_ne_byte (recvResult_of_timeout herr hbuf htimer) nofun,
    fun herr hbuf htimer => exec_saRecv_of_ne_byte (recvResult_of_wait herr hbuf htimer) nofun⟩

/-! SA.FLUSH (R164). -/

/-- Settles O23: SA.FLUSH is `saFlush` in every state. -/
theorem flushDiscardsWhatArrived : Obligations.FlushDiscardsWhatArrived := by
  unfold Obligations.FlushDiscardsWhatArrived
  intro s
  rw [exec_saFlush, saFlush, emit]

end Sys2Proof.Machine
end

section
/-! PROOFS. A byte from the line (spec/42_serial_adapter.md R165): CH_OPEN and the room in RXBUF decide. -/

namespace Sys2Proof.Machine

theorem turnTaken_of_cons {s : State} {u : Turn} {rest : List Turn} (h : s.schedule = u :: rest) :
    turnTaken s = { s with schedule := rest } := by
  rw [turnTaken, h, List.tail_cons]

/-- There is room when RXBUF is below its depth, or has none (R167). -/
theorem rxRoom_iff (s : State) : rxRoom s = true ↔ ∀ d, s.params.rxDepth = some d → s.rxbuf.length < d := by
  cases hd : s.params.rxDepth with
  | none => simp [rxRoom, hd]
  | some d => simp [rxRoom, hd]

/-- The two conditions under which a byte is kept (R165). -/
theorem rxAccepts_iff (s : State) : rxAccepts s = true ↔
    s.chOpen = true ∧ ∀ d, s.params.rxDepth = some d → s.rxbuf.length < d := by
  rw [rxAccepts, Bool.and_eq_true, rxRoom_iff]

theorem step_lineRx_of_accepts {s : State} {b : Byte} {rest : List Turn} (hturn : s.schedule = .lineRx b :: rest)
    (hacc : rxAccepts s = true) : step s = .next { s with schedule := rest, rxbuf := s.rxbuf ++ [b] } := by
  rw [step_lineRx hturn, turnTaken_of_cons hturn]
  exact congrArg _ (if_pos hacc)

theorem step_lineRx_of_rejects {s : State} {b : Byte} {rest : List Turn} (hturn : s.schedule = .lineRx b :: rest)
    (hrej : ¬ rxAccepts s = true) : step s = .next { s with schedule := rest } := by
  rw [step_lineRx hturn, turnTaken_of_cons hturn]
  exact congrArg _ (if_neg hrej)

/-- Settles O24: each clause says by `rxAccepts_iff` whether the byte is accepted. -/
theorem arrivingByteIsBufferedOrDropped : Obligations.ArrivingByteIsBufferedOrDropped := by
  unfold Obligations.ArrivingByteIsBufferedOrDropped
  intro b rest s hturn
  refine ⟨fun hopen hroom => step_lineRx_of_accepts hturn ((rxAccepts_iff s).2 ⟨hopen, hroom⟩),
    fun hclosed => step_lineRx_of_rejects hturn fun hacc => ?_,
    fun d hd hfull => step_lineRx_of_rejects hturn fun hacc => ?_⟩
  · obtain ⟨hopen, -⟩ := (rxAccepts_iff s).1 hacc
    exact Bool.false_ne_true (hclosed.symm.trans hopen)
  · obtain ⟨-, hroom⟩ := (rxAccepts_iff s).1 hacc
    exact Nat.not_lt.2 hfull (hroom d hd)

end Sys2Proof.Machine
end

section
/-! PROOFS. The reset event (spec/70_reset_and_hazards.md R210): one atomic step in any state. -/

namespace Sys2Proof.Machine

theorem exec_reset (s : State) : exec .reset s = .next (resetEvent s) := rfl

/-- A reset turn runs RESET once the turn is taken, in any state. -/
theorem step_reset_eq_exec {s : State} {rest : List Turn} (hturn : s.schedule = .reset :: rest) :
    step s = exec .reset { s with schedule := rest } := by
  rw [step_reset hturn, turnTaken_of_cons hturn, exec_reset]

/-! The reset values that R10 states, whatever the draw is. -/

@[simp] theorem resetEvent_chOpen (s : State) : (resetEvent s).chOpen = false := rfl
@[simp] theorem resetEvent_rxbuf (s : State) : (resetEvent s).rxbuf = [] := rfl
@[simp] theorem resetEvent_rxErr (s : State) : (resetEvent s).rxErr = false := rfl
@[simp] theorem resetEvent_teState (s : State) : (resetEvent s).teState = .idle := rfl

/-- BUSY is no register: it falls with TE_STATE (R24). -/
@[simp] theorem resetEvent_busy (s : State) : (resetEvent s).busy = false :=
  busy_eq_false_of_idle (resetEvent_teState s)

/-! What a reset leaves: no event is emitted, and the build parameters are not written. -/

@[simp] theorem resetEvent_trace (s : State) : (resetEvent s).trace = s.trace := rfl
@[simp] theorem resetEvent_params (s : State) : (resetEvent s).params = s.params := rfl

/-- Settles O42: the reset turn is RESET, and RESET is `resetEvent` in every state. -/
theorem resetEventClosesTheChannel : Obligations.ResetEventClosesTheChannel := by
  unfold Obligations.ResetEventClosesTheChannel
  exact ⟨fun _ _ hturn => step_reset_eq_exec hturn,
    fun s => ⟨resetEvent s, exec_reset s, resetEvent_chOpen s, resetEvent_rxbuf s, resetEvent_rxErr s,
      resetEvent_teState s, resetEvent_busy s, resetEvent_trace s, resetEvent_params s⟩⟩

end Sys2Proof.Machine
end

section
/-! PROOFS. The encoder and the decoder (spec/30_encoding.md R60 to R65, R74): each undoes the other. -/

namespace Sys2Proof

open Machine

/-- A command word is its three fields (R74). -/
theorem commandWord_fields (w : CommandWord) : commandWord (cmdOp w) (cmdA w) (cmdD w) = w := by
  apply BitVec.eq_of_getLsbD_eq
  intro i hi
  simp only [commandWord, cmdOp, cmdA, cmdD, BitVec.getLsbD_append, BitVec.getLsbD_extractLsb']
  by_cases h32 : i < 32
  · simp [h32]
  by_cases h96 : i - 32 < 64
  · simp [h32, h96, Nat.add_sub_of_le (Nat.le_of_not_lt h32)]
  · have hlow : 96 + (i - 32 - 64) = i := by omega
    have hlt : i - 32 - 64 < 2 := by omega
    simp [h32, h96, hlow, hlt]

theorem commandWord_of_op {w : CommandWord} {op : BitVec 2} (h : cmdOp w = op) :
    commandWord op (cmdA w) (cmdD w) = w := by
  rw [← h, commandWord_fields]

/-- Of the four values of CMD_OP, zero is the one that names no command (R74). -/
theorem cmdOp_eq_zero {op : BitVec 2} (hread : op ≠ Config.cmdRead) (hwrite : op ≠ Config.cmdWrite)
    (hconnect : op ≠ Config.cmdConnect) : op = 0 := by
  revert op; decide

theorem encode_decodeCommand (w : CommandWord) : encode (decodeCommand w) = some (.command (.word w)) := by
  rw [decodeCommand]
  by_cases hread : cmdOp w = Config.cmdRead
  · rw [if_pos hread, encode, commandWord_of_op hread]
  rw [if_neg hread]
  by_cases hwrite : cmdOp w = Config.cmdWrite
  · rw [if_pos hwrite, encode, commandWord_of_op hwrite]
  rw [if_neg hwrite]
  by_cases hconnect : cmdOp w = Config.cmdConnect
  · rw [if_pos hconnect, encode, connectCommand, commandWord_of_op hconnect]
  · rw [if_neg hconnect, encode, commandWord_of_op (cmdOp_eq_zero hread hwrite hconnect)]

theorem encode_decodeInterface (c : Command) : encode (decodeInterface c) = some (.command c) := by
  cases c with
  | word w => exact encode_decodeCommand w
  | wideConnect name baud => rfl

/-- A frame that decodes is the one the encoder writes: the markers and the tag are fixed, the other bytes operands. -/
theorem encode_of_decodeFrame {bytes : List Byte} {i : Instr} (h : decodeFrame bytes = .ok i) :
    encode i = some (.frame bytes) := by
  unfold decodeFrame at h
  split at h
  · obtain ⟨hst, hmark⟩ := checkStatus_ok h
    obtain ⟨rfl, rfl, rfl, rfl⟩ := checkMarkers_ok hmark
    simp only [encode, statusByte_statusCode hst]
  · obtain ⟨rfl, rfl, rfl, rfl⟩ := checkMarkers_ok h
    simp only [encode, be32_joinBytes, List.cons_append, List.nil_append]
  · obtain ⟨hst, hmark⟩ := checkStatus_ok h
    obtain ⟨rfl, rfl, rfl, rfl⟩ := checkMarkers_ok hmark
    simp only [encode, statusByte_statusCode hst, be32_joinBytes, List.cons_append, List.nil_append]
  · obtain ⟨rfl, rfl, rfl, rfl⟩ := checkMarkers_ok h
    simp only [encode, be32_joinBytes, List.cons_append, List.nil_append]
  · cases h

theorem encode_of_decode {i : Instr} {c : Code} (h : decode c = .ok i) : encode i = some c := by
  cases c with
  | frame bytes => exact encode_of_decodeFrame h
  | command c =>
    cases h
    exact encode_decodeInterface c

/-- What the encoder writes decodes to its instruction, a frame with whatever CRC field it has. -/
theorem decode_of_encode {i : Instr} {c : Code} (h : encode i = some c) : decode c = .ok i := by
  cases i with
  | reqRead addr crc | reqWrite addr data crc =>
    cases h
    simp [decode, decodeFrame, checkMarkers, be32, joinBytes_be32]
  | rspRead status data crc | rspWrite status crc =>
    cases h
    simp [decode, decodeFrame, checkMarkers, checkStatus, be32, joinBytes_be32]
  | read addr ignored => exact Laws.RoundTrip.read addr ignored rfl c h
  | write addr data => exact Laws.RoundTrip.write addr data rfl c h
  | connect dev baud =>
    cases h
    exact congrArg Except.ok (decodeInterface_connectCommand dev baud)
  | cmdReserved a d => exact Laws.RoundTrip.cmdReserved a d rfl c h
  | _ => cases h

/-- Settles O17: the two directions, `decode_of_encode` by the instruction and `encode_of_decode` by the code. -/
theorem decodeAndEncodeAreInverse : Obligations.DecodeAndEncodeAreInverse := by
  unfold Obligations.DecodeAndEncodeAreInverse
  exact fun _ _ => ⟨decode_of_encode, encode_of_decode⟩

end Sys2Proof
end

section
/-! PROOFS. The invariant of spec/10_state.md R29: every move of the engine, every event of the environment and the reset
event keep it. -/

namespace Sys2Proof.Machine

/-! What the invariant does not speak of. -/

/-- The invariant sees neither the environment's lists, nor the interface, the events, RX_ERR and RDATA. -/
theorem Inv.of_unseen {s : State} (h : Inv s) (v : Word) (err : Bool) (w : Option Command) (answers : List Bool)
    (turns : List Turn) (events : List Event) (n : Nat) :
    Inv { s with rdata := v, rxErr := err, cmd := w, sendAnswers := answers, schedule := turns, trace := events,
                 draws := n } :=
  ⟨h.params, h.channelOpen, h.request, h.attempts, h.sending, h.awaiting, h.decoding, h.depth, h.txidxRange,
    h.rxidxRange, h.timerRange⟩

theorem Inv.turnTaken {s : State} (h : Inv s) : Inv (turnTaken s) := h.of_unseen _ _ _ _ _ _ _

/-- RXBUF may hold anything that its depth allows. -/
theorem Inv.of_rxbuf {s : State} (h : Inv s) (buf : List Byte) (frm : Vector Byte 9)
    (hbuf : ∀ d, s.params.rxDepth = some d → buf.length ≤ d) : Inv { s with rxbuf := buf, rxfrm := frm } :=
  ⟨h.params, h.channelOpen, h.request, h.attempts, h.sending, h.awaiting, h.decoding, hbuf, h.txidxRange,
    h.rxidxRange, h.timerRange⟩

/-- TIMER may hold less. -/
theorem Inv.of_timer_le {s : State} (h : Inv s) {ticks : Nat} (hle : ticks ≤ s.timer) :
    Inv { s with timer := ticks } := by
  have hrange : ticks ≤ s.params.respTicks := Nat.le_trans hle h.timerRange
  refine ⟨h.params, h.channelOpen, h.request, h.attempts, h.sending, fun hs => ?_, h.decoding, h.depth, h.txidxRange,
    h.rxidxRange, hrange⟩
  obtain ⟨op, hlen, hidx, -⟩ := h.awaiting hs
  exact ⟨op, hlen, hidx, hrange⟩

/-- In IDLE only the parameters and the ranges count (R29 speaks of BUSY = 1 otherwise). -/
theorem inv_of_idle {s : State} (hidle : s.teState = .idle) (hparams : s.params.valid)
    (hdepth : ∀ d, s.params.rxDepth = some d → s.rxbuf.length ≤ d) (htxidx : s.txidx.toNat ≤ 12)
    (hrxidx : s.rxidx.toNat ≤ 9) (htimer : s.timer ≤ s.params.respTicks) : Inv s where
  params := hparams
  channelOpen hbusy := absurd hidle hbusy
  request hbusy := absurd hidle hbusy
  attempts hbusy := absurd hidle hbusy
  sending h := absurd (hidle.symm.trans h) nofun
  awaiting h := absurd (hidle.symm.trans h) nofun
  decoding h := absurd (hidle.symm.trans h) nofun
  depth := hdepth
  txidxRange := htxidx
  rxidxRange := hrxidx
  timerRange := htimer

/-- Settles O48: the engine is IDLE, the parameters are R5's defaults and the counters are zero. -/
theorem powerOnMeetsTheInvariant : Obligations.PowerOnMeetsTheInvariant := by
  unfold Obligations.PowerOnMeetsTheInvariant
  exact inv_of_idle rfl ⟨by decide, by decide, by decide⟩ nofun (Nat.zero_le _) (Nat.zero_le _) (Nat.zero_le _)

/-! The moves of the engine. -/

section Moves
variable {s : State}

theorem Inv.complete (h : Inv s) (op : Opcode) (st : Byte) : Inv (complete op st s) :=
  inv_of_idle rfl h.params h.depth h.txidxRange h.rxidxRange h.timerRange

theorem Inv.acceptConnect (h : Inv s) (dev : DevId) (baud : Word) (hidle : s.teState = .idle) :
    Inv (acceptConnect dev baud s) := by
  rw [acceptConnect_eq dev baud hidle]
  exact inv_of_idle hidle h.params (fun _ _ => Nat.zero_le _) h.txidxRange h.rxidxRange h.timerRange

/-- Into PREP, with an open channel, a latched operation and a legal attempt (R123, R124, R133). -/
theorem Inv.to_prep (h : Inv s) {w : Option Command} {tag : Byte} {addr data : Word} {n : Nat}
    (hopen : s.chOpen = true) (hop : ∃ op, opOfTag tag = some op) (hn : 1 ≤ n ∧ n ≤ s.params.maxAttempts) :
    Inv { s with cmd := w, reqOp := tag, reqAddr := addr, reqData := data, attempt := n, teState := .prep } :=
  ⟨h.params, fun _ => hopen, fun _ => hop, fun _ => hn, nofun, nofun, nofun, h.depth, h.txidxRange, h.rxidxRange,
    h.timerRange⟩

theorem Inv.acceptRequest (h : Inv s) (op : Opcode) (addr : AddrIn) (data : Word) :
    Inv (acceptRequest op addr data s) := by
  rcases acceptRequest_cases op addr data s with ⟨hopen, e⟩ | ⟨-, e⟩ <;> rw [e]
  · exact h.to_prep hopen ⟨op, opOfTag_opTag op⟩ ⟨Nat.le_refl 1, h.params.1⟩
  · exact (h.of_unseen s.rdata s.rxErr none s.sendAnswers s.schedule s.trace s.draws).complete op _

theorem Inv.attemptFailed (h : Inv s) (op : Opcode) (hbusy : s.teState ≠ .idle) : Inv (attemptFailed op s) := by
  rcases attemptFailed_cases op s with ⟨-, e⟩ | ⟨hbelow, e⟩ <;> rw [e]
  · exact h.complete op _
  · obtain ⟨-, hle⟩ := h.attempts hbusy
    exact h.to_prep (h.channelOpen hbusy) (h.request hbusy) ⟨Nat.le_add_left _ _, by omega⟩

theorem txlenOf_le (op : Opcode) : txlenOf op ≤ 12 := by cases op <;> decide
theorem explenOf_le (op : Opcode) : explenOf op ≤ 9 := by cases op <;> decide
theorem explenOf_pos (op : Opcode) : 0 < explenOf op := by cases op <;> decide

/-- The first bytes of TXBUF after T4 are the frame (R125). -/
theorem writeFrame_take (buf : Vector Byte 12) {f : List Byte} (h : f.length ≤ 12) :
    (writeFrame buf f).toList.take f.length = f := by
  apply List.ext_getElem
  · simp [h]
  · intro i hi hf
    simp [writeFrame, hf]

theorem Inv.loadRequest (h : Inv s) {op : Opcode} (hprep : s.teState = .prep) (hop : opOfTag s.reqOp = some op) :
    Inv (loadRequest op (enc op s.reqAddr s.reqData) s) := by
  have hbusy : s.teState ≠ .idle := by rw [hprep]; exact nofun
  have hframe := writeFrame_take s.txbuf (f := enc op s.reqAddr s.reqData) (by simp [txlenOf_le])
  refine ⟨h.params, fun _ => h.channelOpen hbusy, fun _ => h.request hbusy, fun _ => h.attempts hbusy,
    fun _ => ⟨op, ⟨?_, hop⟩, ?_, ?_, ?_, rfl⟩, nofun, nofun, fun _ _ => Nat.zero_le _, Nat.zero_le _, Nat.zero_le _,
    h.timerRange⟩
  · cases op <;> rfl
  · cases op <;> rfl
  · simpa using hframe
  · cases op <;> exact Nat.succ_pos _

/-- Counting one more inside four bits. -/
theorem toNat_add_one {x : BitVec 4} {n : Nat} (h : x.toNat < n) (hn : n ≤ 12) : (x + 1).toNat = x.toNat + 1 := by
  bv_omega

theorem Inv.afterSend (h : Inv s) (htx : s.teState = .tx) : Inv (afterSend s) := by
  have hbusy : s.teState ≠ .idle := by rw [htx]; exact nofun
  obtain ⟨op, hlen, htxlen, hframe, hidx, hrx⟩ := h.sending htx
  have hmax := txlenOf_le op
  rcases afterSend_cases s with ⟨-, e⟩ | ⟨hmore, e⟩ <;> rw [e]
  · refine ⟨h.params, fun _ => h.channelOpen hbusy, fun _ => h.request hbusy, fun _ => h.attempts hbusy, nofun,
      fun _ => ⟨op, hlen, ?_, Nat.le_refl _⟩, nofun, h.depth, h.txidxRange, h.rxidxRange, Nat.le_refl _⟩
    simpa [hrx] using explenOf_pos op
  · have hnext := toNat_add_one hidx hmax
    have hlt : (s.txidx + 1).toNat < txlenOf op := by omega
    exact ⟨h.params, h.channelOpen, h.request, h.attempts, fun _ => ⟨op, hlen, htxlen, hframe, hlt, hrx⟩,
      h.awaiting, h.decoding, h.depth, Nat.le_of_lt (Nat.lt_of_lt_of_le hlt hmax), h.rxidxRange, h.timerRange⟩

theorem Inv.afterStore (h : Inv s) (hawait : s.teState = .await) : Inv (afterStore s) := by
  have hbusy : s.teState ≠ .idle := by rw [hawait]; exact nofun
  obtain ⟨op, ⟨hexplen, hop⟩, hidx, htimer⟩ := h.awaiting hawait
  have hmax := explenOf_le op
  rcases afterStore_cases s with ⟨-, e⟩ | ⟨hmore, e⟩ <;> rw [e]
  · exact ⟨h.params, fun _ => h.channelOpen hbusy, fun _ => h.request hbusy, fun _ => h.attempts hbusy, nofun, nofun,
      fun _ => ⟨op, ⟨hexplen, hop⟩, rfl⟩, h.depth, h.txidxRange, hexplen ▸ hmax, h.timerRange⟩
  · have hnext := toNat_add_one hidx (by omega)
    have hlt : (s.rxidx + 1).toNat < explenOf op := by omega
    have hnot : s.teState ≠ .tx := by rw [hawait]; exact nofun
    exact ⟨h.params, h.channelOpen, h.request, h.attempts, fun htx => absurd htx hnot,
      fun _ => ⟨op, ⟨hexplen, hop⟩, hlt, htimer⟩, fun hd => absurd (hawait.symm.trans hd) nofun, h.depth,
      h.txidxRange, Nat.le_of_lt (Nat.lt_of_lt_of_le hlt hmax), h.timerRange⟩

theorem Inv.saSend (h : Inv s) (b : Byte) : Inv (saSend b s) := by
  obtain ⟨answers, n, e⟩ := saSend_eq b s
  rw [e]
  exact h.of_unseen _ _ _ _ _ _ _

theorem Inv.judge (h : Inv s) (op : Opcode) (bytes : List Byte) (hbusy : s.teState ≠ .idle) :
    Inv (judge op bytes s) := by
  rcases judge_cases op bytes s with ⟨st, v, -, e⟩ | ⟨st, -, e⟩ | ⟨k, -, e⟩ <;> rw [e]
  · exact (h.of_unseen v s.rxErr s.cmd s.sendAnswers s.schedule s.trace s.draws).complete .read st
  · exact h.complete .write st
  · exact h.attemptFailed op hbusy

end Moves

@[simp] theorem saSend_teState (b : Byte) (s : State) : (saSend b s).teState = s.teState := by
  obtain ⟨_, _, e⟩ := saSend_eq b s; rw [e]

theorem Inv.move {s t : State} (h : Inv s) (hm : EngineMove s t) : Inv t := by
  cases hm with
  | wait => exact h
  | connect dev baud hidle => exact h.acceptConnect dev baud hidle
  | accept op addr data => exact h.acceptRequest op addr data
  | load op hprep hop => exact h.loadRequest hprep hop
  | sent b htx => exact (h.saSend b).afterSend ((saSend_teState b s).trans htx)
  | sendFailed op b => exact (h.saSend b).complete op _
  | stored b rest hawait _ hbuf hidx =>
    have hshort (d : Nat) (hd : s.params.rxDepth = some d) : rest.length ≤ d := by
      have := h.depth d hd
      rw [hbuf, List.length_cons] at this
      omega
    exact (h.of_rxbuf rest _ hshort).afterStore hawait
  | waitFailed op hawait => exact h.attemptFailed op (by rw [hawait]; exact nofun)
  | judged op hdecode => exact h.judge op _ (by rw [hdecode]; exact nofun)

/-! The reset event, which keeps the drawn indices and TIMER inside their ranges (R10). -/

theorem Inv.resetEvent {s : State} (h : Inv s) : Inv (resetEvent s) :=
  inv_of_idle rfl h.params (fun _ _ => Nat.zero_le _) (clampIndex_le 12 _) (clampIndex_le 9 _) (Nat.min_le_right _ _)

/-- Settles O49: an engine move, an environment event, which at most fills RXBUF to its depth and counts TIMER down, or
a reset event. -/
theorem everyStepKeepsTheInvariant : Obligations.EveryStepKeepsTheInvariant := by
  unfold Obligations.EveryStepKeepsTheInvariant
  intro s t h hstep
  by_cases hreset : resetTurn s
  · obtain ⟨rest, hturn⟩ := hreset
    rw [step_reset hturn] at hstep
    cases hstep
    exact h.turnTaken.resetEvent
  · rcases step_cases hstep hreset with ⟨-, hm⟩ | ⟨buf, ticks, err, w, rfl, hticks, hbuf⟩
    · exact h.turnTaken.move hm
    · have hle : ticks ≤ s.timer := by omega
      exact ((h.of_rxbuf buf s.rxfrm fun d hd => hbuf d hd (h.depth d hd)).of_timer_le hle).of_unseen
        s.rdata err w s.sendAnswers _ s.trace s.draws

end Sys2Proof.Machine
end

section
/-! PROOFS. The engine's turn, row by row (spec/41_transaction_engine.md R139): the next state for each TE_STATE, and that
from a state of the invariant there is one. -/

namespace Sys2Proof.Machine

/-- What the decoder reads at the interface is one of the four command rows (R74). -/
theorem decodeInterface_cases (c : Command) :
    (∃ dev baud, decodeInterface c = .connect dev baud) ∨ (∃ a x, decodeInterface c = .read a x) ∨
    (∃ a d, decodeInterface c = .write a d) ∨ (∃ a d, decodeInterface c = .cmdReserved a d) := by
  cases c with
  | wideConnect name baud => exact .inl ⟨_, _, rfl⟩
  | word w =>
    rw [decodeInterface, decodeCommand]
    by_cases hread : cmdOp w = Config.cmdRead
    · exact .inr (.inl ⟨_, _, if_pos hread⟩)
    rw [if_neg hread]
    by_cases hwrite : cmdOp w = Config.cmdWrite
    · exact .inr (.inr (.inl ⟨_, _, if_pos hwrite⟩))
    rw [if_neg hwrite]
    by_cases hconnect : cmdOp w = Config.cmdConnect
    · exact .inl ⟨_, _, if_pos hconnect⟩
    · exact .inr (.inr (.inr ⟨_, _, if_neg hconnect⟩))

/-- SA.RECV's four results, with what the state then holds (R163). -/
theorem recvResult_cases (s : State) :
    (s.rxErr = true ∧ recvResult s = .error) ∨
    (s.rxErr = false ∧ ∃ b rest, s.rxbuf = b :: rest ∧ recvResult s = .byte b) ∨
    (s.rxErr = false ∧ s.rxbuf = [] ∧ s.timer = 0 ∧ recvResult s = .timeout) ∨
    (s.rxErr = false ∧ s.rxbuf = [] ∧ 0 < s.timer ∧ recvResult s = .wait) := by
  cases herr : s.rxErr with
  | true => exact .inl ⟨rfl, recvResult_of_rxErr herr⟩
  | false =>
    right
    cases hbuf : s.rxbuf with
    | cons b rest => exact .inl ⟨rfl, b, rest, rfl, recvResult_of_byte herr hbuf⟩
    | nil =>
      right
      rcases Nat.eq_zero_or_pos s.timer with htimer | htimer
      · exact .inl ⟨rfl, rfl, htimer, recvResult_of_timeout herr hbuf htimer⟩
      · exact .inr ⟨rfl, rfl, htimer, recvResult_of_wait herr hbuf htimer⟩

theorem exec_t4_of_prep {u : State} {op : Opcode} (hprep : u.teState = .prep) (hop : opOfTag u.reqOp = some op) :
    exec .t4 u = .next (loadRequest op (enc op u.reqAddr u.reqData) u) := by
  simp [exec, execT4, hprep, withLatchedOp_some hop]

theorem exec_t11_of_decodedErr {u : State} {op : Opcode} (hdecode : u.teState = .decode)
    (hop : opOfTag u.reqOp = some op) (herr : decodedOk (dec op (collected u)) = false) :
    exec .t11 u = .next (judge op (collected u) u) := by
  simp [exec, execT11, hdecode, withLatchedOp_some hop, herr]

theorem collectedOk_of_op {u : State} {op : Opcode} (hop : opOfTag u.reqOp = some op) :
    collectedOk u = decodedOk (dec op (collected u)) := by
  rw [collectedOk, hop]

section EngineTurn
variable {s : State} (he : engineTurn s)
include he

theorem step_of_enabled {i : Instr} (hi : enabledStep s = some i) : step s = exec i (turnTaken s) := by
  rw [step_engine he, hi]

theorem step_of_waiting (hi : enabledStep s = none) : step s = .next (turnTaken s) := by
  rw [step_engine he, hi]

/-! IDLE. -/

theorem step_idle_of_no_cmd (hidle : s.teState = .idle) (hcmd : s.cmd = none) : step s = .next (turnTaken s) :=
  step_of_waiting he (by rw [enabledStep, hidle, hcmd]; rfl)

/-- In IDLE the step is the command's own row: T1, T2 and T3 are CONNECT, READ and WRITE (R121 to R124). -/
theorem step_idle_of_cmd {c : Command} (hidle : s.teState = .idle) (hcmd : s.cmd = some c) :
    step s = exec (decodeInterface c) (turnTaken s) := by
  have hi : enabledStep s = some (commandStep c) := by rw [enabledStep, hidle, hcmd]; rfl
  have hp : presented (turnTaken s) = some (decodeInterface c) := presented_of_cmd (s := turnTaken s) hcmd
  have hidle' : (turnTaken s).teState = .idle := hidle
  rw [step_of_enabled he hi, commandStep]
  rcases decodeInterface_cases c with ⟨dev, baud, hd⟩ | ⟨a, x, hd⟩ | ⟨a, d, hd⟩ | ⟨a, d, hd⟩ <;>
    rw [hd] at hp ⊢ <;> dsimp only
  · rw [exec_t1_of_presented hidle' hp, exec_connect_of_idle dev baud hidle']
  · rw [exec_t2_of_presented hidle' hp, exec_read_of_idle a x hidle']
  · rw [exec_t3_of_presented hidle' hp, exec_write_of_idle a d hidle']

/-! PREP and TX. -/

theorem step_prep {op : Opcode} (hprep : s.teState = .prep) (hop : opOfTag s.reqOp = some op) :
    step s = .next (loadRequest op (enc op s.reqAddr s.reqData) (turnTaken s)) := by
  rw [step_of_enabled he (i := .t4) (by rw [enabledStep, hprep])]
  exact exec_t4_of_prep (u := turnTaken s) hprep hop

theorem step_tx_of_sent (htx : s.teState = .tx) (hidx : s.txidx.toNat < 12) (hsent : sendResult s = true) :
    step s = .next (afterSend (saSend s.txbuf[s.txidx.toNat] (turnTaken s))) := by
  rw [step_of_enabled he (i := .t5) (by rw [enabledStep, htx]; exact if_pos hsent)]
  exact exec_t5_of_sent (s := turnTaken s) hidx htx hsent

theorem step_tx_of_failed {op : Opcode} (htx : s.teState = .tx) (hidx : s.txidx.toNat < 12)
    (hfail : sendResult s = false) (hop : opOfTag s.reqOp = some op) :
    step s = .next (complete op Config.eTxFail (saSend s.txbuf[s.txidx.toNat] (turnTaken s))) := by
  rw [step_of_enabled he (i := .t6) (by rw [enabledStep, htx]; exact if_neg (by simp [hfail]))]
  exact exec_t6_of_failed (s := turnTaken s) hidx htx hfail hop

/-! AWAIT. -/

theorem step_await_of_byte {b : Byte} {rest : List Byte} (hawait : s.teState = .await) (hidx : s.rxidx.toNat < 9)
    (herr : s.rxErr = false) (hbuf : s.rxbuf = b :: rest) :
    step s = .next (afterStore
      { turnTaken s with rxbuf := rest, rxfrm := s.rxfrm.set s.rxidx.toNat b hidx }) := by
  have hrecv := recvResult_of_byte herr hbuf
  rw [step_of_enabled he (i := .t7) (by rw [enabledStep, hawait]; exact (by rw [awaitStep, hrecv])),
    exec_t7_of_byte (s := turnTaken s) hawait hrecv, saRecv_of_byte (s := turnTaken s) herr hbuf]
  exact storeByte_of_lt b (s := { turnTaken s with rxbuf := rest }) hidx

/-- T8 and T9 do the same (R129, R130). -/
theorem step_await_of_failed {op : Opcode} (hawait : s.teState = .await)
    (hrecv : recvResult s = .error ∨ recvResult s = .timeout) (hop : opOfTag s.reqOp = some op) :
    step s = .next (attemptFailed op (turnTaken s)) := by
  rcases hrecv with hrecv | hrecv
  · rw [step_of_enabled he (i := .t8) (by rw [enabledStep, hawait]; exact (by rw [awaitStep, hrecv]))]
    exact exec_t8_of_error (s := turnTaken s) hawait hrecv hop
  · rw [step_of_enabled he (i := .t9) (by rw [enabledStep, hawait]; exact (by rw [awaitStep, hrecv]))]
    exact exec_t9_of_timeout (s := turnTaken s) hawait hrecv hop

theorem step_await_of_wait (hawait : s.teState = .await) (hrecv : recvResult s = .wait) :
    step s = .next (turnTaken s) :=
  step_of_waiting he (by rw [enabledStep, hawait]; exact (by rw [awaitStep, hrecv]))

/-! DECODE. -/

/-- T10 and T11 judge the collected bytes (R131, R132). -/
theorem step_decode {op : Opcode} (hdecode : s.teState = .decode) (hop : opOfTag s.reqOp = some op) :
    step s = .next (judge op (collected s) (turnTaken s)) := by
  cases hok : decodedOk (dec op (collected s)) with
  | true =>
    have hi : enabledStep s = some .t10 := by
      rw [enabledStep, hdecode]; exact if_pos ((collectedOk_of_op hop).trans hok)
    rw [step_of_enabled he hi]
    exact exec_t10_of_decodedOk (s := turnTaken s) hdecode hop hok
  | false =>
    have hi : enabledStep s = some .t11 := by
      rw [enabledStep, hdecode]; exact if_neg (by simp [collectedOk_of_op hop, hok])
    rw [step_of_enabled he hi]
    exact exec_t11_of_decodedErr (u := turnTaken s) hdecode hop hok

end EngineTurn

/-! From a state of the invariant the operation is known and no index is past its buffer. -/

section UnderInv
variable {s : State} (h : Inv s)
include h

theorem Inv.txidx_lt (htx : s.teState = .tx) : s.txidx.toNat < 12 := by
  obtain ⟨op, -, -, -, hidx, -⟩ := h.sending htx
  exact Nat.lt_of_lt_of_le hidx (txlenOf_le op)

theorem Inv.rxidx_lt (hawait : s.teState = .await) : s.rxidx.toNat < 9 := by
  obtain ⟨op, -, hidx, -⟩ := h.awaiting hawait
  exact Nat.lt_of_lt_of_le hidx (explenOf_le op)

/-- The engine's turn never stops. -/
theorem engine_next_of_inv (he : engineTurn s) : ∃ t, step s = .next t := by
  have hop (hs : s.teState ≠ .idle) := h.request hs
  cases hs : s.teState with
  | idle =>
    cases hcmd : s.cmd with
    | none => exact ⟨_, step_idle_of_no_cmd he hs hcmd⟩
    | some c =>
      have hs' : (turnTaken s).teState = .idle := hs
      rw [step_idle_of_cmd he hs hcmd]
      rcases decodeInterface_cases c with ⟨dev, baud, hd⟩ | ⟨a, x, hd⟩ | ⟨a, d, hd⟩ | ⟨a, d, hd⟩ <;> rw [hd]
      · exact ⟨_, exec_connect_of_idle dev baud hs'⟩
      · exact ⟨_, exec_read_of_idle a x hs'⟩
      · exact ⟨_, exec_write_of_idle a d hs'⟩
      · exact ⟨_, rfl⟩
  | prep =>
    obtain ⟨op, hop⟩ := hop (by simp [hs])
    exact ⟨_, step_prep he hs hop⟩
  | tx =>
    obtain ⟨op, hop⟩ := hop (by simp [hs])
    cases hr : sendResult s with
    | true => exact ⟨_, step_tx_of_sent he hs (h.txidx_lt hs) hr⟩
    | false => exact ⟨_, step_tx_of_failed he hs (h.txidx_lt hs) hr hop⟩
  | await =>
    obtain ⟨op, hop⟩ := hop (by simp [hs])
    rcases recvResult_cases s with ⟨-, hr⟩ | ⟨herr, b, rest, hbuf, -⟩ | ⟨-, -, -, hr⟩ | ⟨-, -, -, hr⟩
    · exact ⟨_, step_await_of_failed he hs (.inl hr) hop⟩
    · exact ⟨_, step_await_of_byte he hs (h.rxidx_lt hs) herr hbuf⟩
    · exact ⟨_, step_await_of_failed he hs (.inr hr) hop⟩
    · exact ⟨_, step_await_of_wait he hs hr⟩
  | decode =>
    obtain ⟨op, hop⟩ := hop (by simp [hs])
    exact ⟨_, step_decode he hs hop⟩

end UnderInv

/-- Settles O47: on the engine's turn one of its rows applies, and every other turn is total in any state. -/
theorem stepNeverStops : Obligations.StepNeverStops := by
  unfold Obligations.StepNeverStops
  intro s h
  rcases step_turns s with he | ⟨b, e⟩ | e | e | ⟨-, e⟩ | ⟨w, e⟩ | e
  · exact engine_next_of_inv h he
  all_goals exact ⟨_, e⟩

end Sys2Proof.Machine
end

section
/-! PROOFS. A transaction ends (spec/41_transaction_engine.md R138): the measure `workLeft` falls with every move of the
engine that is not a wait, and no event of the environment raises it. -/

namespace Sys2Proof.Machine

theorem workLeft_of_idle {s : State} (hidle : s.teState = .idle) : workLeft s = 0 := by
  rw [workLeft, hidle]

/-- The measure of a busy engine: the attempts still to come, each of full length, and the rest of this one. -/
theorem workLeft_of_busy {s : State} (hbusy : s.teState ≠ .idle) :
    workLeft s = (s.params.maxAttempts - s.attempt) * (s.params.respTicks + 24) + attemptWork s := by
  unfold workLeft
  cases hs : s.teState with
  | idle => exact absurd hs hbusy
  | prep | tx | await | decode => rfl

theorem attemptWork_pos {s : State} (hbusy : s.teState ≠ .idle) : 0 < attemptWork s := by
  unfold attemptWork
  cases hs : s.teState with
  | idle => exact absurd hs hbusy
  | prep | tx | await | decode => dsimp only; omega

theorem workLeft_pos {s : State} (hbusy : s.teState ≠ .idle) : 0 < workLeft s := by
  rw [workLeft_of_busy hbusy]
  exact Nat.add_pos_right _ (attemptWork_pos hbusy)

/-! The work left in this attempt. -/

section AttemptWork
variable {s : State}

theorem attemptWork_of_prep (hs : s.teState = .prep) : attemptWork s = s.params.respTicks + 24 := by
  rw [attemptWork, hs]
theorem attemptWork_of_tx (hs : s.teState = .tx) :
    attemptWork s = (s.txlen.toNat - s.txidx.toNat) + s.params.respTicks + 11 := by
  rw [attemptWork, hs]
theorem attemptWork_of_await (hs : s.teState = .await) :
    attemptWork s = s.timer + (s.explen.toNat - s.rxidx.toNat) + 1 := by
  rw [attemptWork, hs]
theorem attemptWork_of_decode (hs : s.teState = .decode) : attemptWork s = 1 := by
  rw [attemptWork, hs]

end AttemptWork

/-- A completion ends the work. -/
theorem workLeft_complete_lt {s : State} (op : Opcode) (st : Byte) (u : State) (hbusy : s.teState ≠ .idle) :
    workLeft (complete op st u) < workLeft s := by
  rw [workLeft_of_idle (complete_teState op st u)]
  exact workLeft_pos hbusy

/-- Inside an attempt the measure of the attempt alone decides. -/
theorem workLeft_lt_of_attemptWork {s t : State} (hs : s.teState ≠ .idle) (ht : t.teState ≠ .idle)
    (hparams : t.params = s.params) (hattempt : t.attempt = s.attempt) (hwork : attemptWork t < attemptWork s) :
    workLeft t < workLeft s := by
  rw [workLeft_of_busy hs, workLeft_of_busy ht, hparams, hattempt]
  exact Nat.add_lt_add_left hwork _

/-- A failed attempt costs what was left of it; the next one starts with its full length, counted before. -/
theorem workLeft_attemptFailed_lt {s : State} (h : Inv s) (op : Opcode) (hbusy : s.teState ≠ .idle) :
    workLeft (attemptFailed op s) < workLeft s := by
  rcases attemptFailed_cases op s with ⟨-, e⟩ | ⟨hbelow, e⟩ <;> rw [e]
  · exact workLeft_complete_lt op _ s hbusy
  · obtain ⟨-, hle⟩ := h.attempts hbusy
    have hpos := attemptWork_pos hbusy
    have hleft : s.params.maxAttempts - s.attempt = s.params.maxAttempts - (s.attempt + 1) + 1 := by omega
    have hprep : ({ s with attempt := s.attempt + 1, teState := .prep } : State).teState ≠ .idle := nofun
    rw [workLeft_of_busy hbusy, workLeft_of_busy hprep, attemptWork_of_prep rfl, hleft, Nat.succ_mul]
    dsimp only
    omega

/-! The steps inside an attempt. -/

section Attempt
variable {s : State}

theorem attemptWork_loadRequest_lt (op : Opcode) (a d : Word) (hprep : s.teState = .prep) :
    attemptWork (loadRequest op (enc op a d) s) < attemptWork s := by
  have hlen : (BitVec.ofNat 4 (enc op a d).length).toNat ≤ 12 := by cases op <;> simp [txlenOf]
  rw [attemptWork_of_prep hprep, attemptWork_of_tx rfl, loadRequest_txlen, loadRequest_params]
  omega

theorem attemptWork_afterSend_lt (h : Inv s) (htx : s.teState = .tx) : attemptWork (afterSend s) < attemptWork s := by
  obtain ⟨op, ⟨hexplen, -⟩, htxlen, -, hidx, hrx⟩ := h.sending htx
  have hmax := txlenOf_le op
  have hresp := explenOf_le op
  rw [attemptWork_of_tx htx]
  rcases afterSend_cases s with ⟨hlast, e⟩ | ⟨hmore, e⟩ <;> rw [e]
  · rw [attemptWork_of_await rfl]
    dsimp only
    omega
  · rw [attemptWork_of_tx (s := { s with txidx := s.txidx + 1 }) htx]
    have hnext := toNat_add_one hidx hmax
    dsimp only
    omega

theorem attemptWork_afterStore_lt (h : Inv s) (hawait : s.teState = .await) :
    attemptWork (afterStore s) < attemptWork s := by
  obtain ⟨op, ⟨hexplen, -⟩, hidx, -⟩ := h.awaiting hawait
  have hmax := explenOf_le op
  rw [attemptWork_of_await hawait]
  rcases afterStore_cases s with ⟨hlast, e⟩ | ⟨hmore, e⟩ <;> rw [e]
  · rw [attemptWork_of_decode rfl]
    omega
  · rw [attemptWork_of_await (s := { s with rxidx := s.rxidx + 1 }) hawait]
    have hnext := toNat_add_one hidx (by omega)
    dsimp only
    omega

end Attempt

/-! What `afterSend` and `afterStore` leave alone (R126, R128). -/

@[simp] theorem saSend_params (b : Byte) (s : State) : (saSend b s).params = s.params := by
  obtain ⟨_, _, e⟩ := saSend_eq b s; rw [e]
@[simp] theorem saSend_attempt (b : Byte) (s : State) : (saSend b s).attempt = s.attempt := by
  obtain ⟨_, _, e⟩ := saSend_eq b s; rw [e]
@[simp] theorem afterSend_params (s : State) : (afterSend s).params = s.params := by
  rcases afterSend_cases s with ⟨-, e⟩ | ⟨-, e⟩ <;> rw [e]
@[simp] theorem afterSend_attempt (s : State) : (afterSend s).attempt = s.attempt := by
  rcases afterSend_cases s with ⟨-, e⟩ | ⟨-, e⟩ <;> rw [e]
@[simp] theorem afterStore_params (s : State) : (afterStore s).params = s.params := by
  rcases afterStore_cases s with ⟨-, e⟩ | ⟨-, e⟩ <;> rw [e]
@[simp] theorem afterStore_attempt (s : State) : (afterStore s).attempt = s.attempt := by
  rcases afterStore_cases s with ⟨-, e⟩ | ⟨-, e⟩ <;> rw [e]

theorem afterSend_busy {s : State} (htx : s.teState = .tx) : (afterSend s).teState ≠ .idle := by
  rcases afterSend_cases s with ⟨-, e⟩ | ⟨-, e⟩ <;> rw [e]
  · exact nofun
  · simp [htx]

theorem afterStore_busy {s : State} (hawait : s.teState = .await) : (afterStore s).teState ≠ .idle := by
  rcases afterStore_cases s with ⟨-, e⟩ | ⟨-, e⟩ <;> rw [e]
  · exact nofun
  · simp [hawait]

theorem attemptWork_saSend (b : Byte) (s : State) : attemptWork (saSend b s) = attemptWork s := by
  obtain ⟨_, _, e⟩ := saSend_eq b s; rw [e]; rfl

/-- Every move of a busy engine but the wait in AWAIT brings Done nearer. -/
theorem workLeft_move_lt {s t : State} (h : Inv s) (hbusy : s.teState ≠ .idle) (hm : EngineMove s t) :
    workLeft t < workLeft s ∨ t = s ∧ s.teState = .await ∧ recvResult s = .wait := by
  cases hm with
  | wait hw => exact .inr ⟨rfl, hw.resolve_left hbusy⟩
  | connect dev baud hidle => exact absurd hidle hbusy
  | accept op addr data hidle => exact absurd hidle hbusy
  | load op hprep hop =>
    exact .inl (workLeft_lt_of_attemptWork hbusy nofun rfl rfl (attemptWork_loadRequest_lt op _ _ hprep))
  | sent b htx =>
    have htx' := (saSend_teState b s).trans htx
    have hlt := attemptWork_afterSend_lt (h.saSend b) htx'
    rw [attemptWork_saSend] at hlt
    exact .inl (workLeft_lt_of_attemptWork hbusy (afterSend_busy htx') (by simp) (by simp) hlt)
  | sendFailed op b => exact .inl (workLeft_complete_lt op _ _ hbusy)
  | stored b rest hawait _ hbuf hidx =>
    have hshort (d : Nat) (hd : s.params.rxDepth = some d) : rest.length ≤ d := by
      have := h.depth d hd
      rw [hbuf, List.length_cons] at this
      omega
    have hlt := attemptWork_afterStore_lt (h.of_rxbuf rest (s.rxfrm.set s.rxidx.toNat b hidx) hshort) hawait
    exact .inl (workLeft_lt_of_attemptWork hbusy (afterStore_busy hawait) (by simp) (by simp) hlt)
  | waitFailed op => exact .inl (workLeft_attemptFailed_lt h op hbusy)
  | judged op =>
    rcases judge_cases op (collected s) s with ⟨st, v, -, e⟩ | ⟨st, -, e⟩ | ⟨k, -, e⟩ <;> rw [e]
    · exact .inl (workLeft_complete_lt .read st _ hbusy)
    · exact .inl (workLeft_complete_lt .write st _ hbusy)
    · exact .inl (workLeft_attemptFailed_lt h op hbusy)

/-- In AWAIT fewer ticks are less work. -/
theorem workLeft_lt_of_timer {s : State} (hawait : s.teState = .await) {t : State} (ht : t.teState = .await)
    (hparams : t.params = s.params) (hattempt : t.attempt = s.attempt) (hexplen : t.explen = s.explen)
    (hrxidx : t.rxidx = s.rxidx) (htimer : t.timer < s.timer) : workLeft t < workLeft s := by
  refine workLeft_lt_of_attemptWork (by simp [hawait]) (by simp [ht]) hparams hattempt ?_
  rw [attemptWork_of_await hawait, attemptWork_of_await ht, hexplen, hrxidx]
  omega

/-- The measure sees of the environment's doing only TIMER, in AWAIT. -/
theorem workLeft_of_environment {s : State} (buf : List Byte) (ticks : Nat) (err : Bool) (w : Option Command)
    (hticks : ticks = s.timer ∨ s.teState = .await ∧ ticks + 1 = s.timer) :
    workLeft { turnTaken s with rxbuf := buf, rxErr := err, timer := ticks, cmd := w } ≤ workLeft s := by
  rcases hticks with rfl | ⟨hawait, hcount⟩
  · exact Nat.le_refl _
  · exact Nat.le_of_lt (workLeft_lt_of_timer hawait hawait rfl rfl rfl rfl (Nat.lt_of_succ_le (Nat.le_of_eq hcount)))

/-- A tick that counts makes the measure smaller. -/
theorem workLeft_tick_lt {s : State} (hawait : s.teState = .await) (htimer : 0 < s.timer) :
    workLeft (tick (turnTaken s)) < workLeft s := by
  rcases tick_cases (turnTaken s) with ⟨-, -, e⟩ | ⟨hno, -⟩
  · rw [e]
    exact workLeft_lt_of_timer hawait hawait rfl rfl rfl rfl (Nat.sub_lt htimer Nat.one_pos)
  · exact absurd ⟨hawait, htimer⟩ hno

/-- Settles O57: the engine's moves by `workLeft_move_lt`, a tick by its effect on TIMER, and the reset event ends in
IDLE, where the measure is zero. -/
theorem everyStepMakesProgress : Obligations.EveryStepMakesProgress := by
  unfold Obligations.EveryStepMakesProgress
  intro s t h hbusy hstep
  refine ⟨fun he henabled => ?_, fun rest hturn hawait htimer => ?_, ?_, workLeft_pos hbusy⟩
  · rcases workLeft_move_lt h.turnTaken hbusy (engine_move he hstep) with hlt | ⟨-, hawait, hwait⟩
    · exact hlt
    · refine absurd ?_ henabled
      have hwait' : recvResult s = .wait := hwait
      have hawait' : s.teState = .await := hawait
      rw [enabledStep, hawait']
      exact (by rw [awaitStep, hwait'])
  · rw [step_tick hturn] at hstep
    cases hstep
    exact workLeft_tick_lt hawait htimer
  · by_cases hreset : resetTurn s
    · obtain ⟨rest, hturn⟩ := hreset
      rw [step_reset hturn] at hstep
      cases hstep
      exact Nat.le_of_lt ((workLeft_of_idle (resetEvent_teState _)).symm ▸ workLeft_pos hbusy)
    · rcases step_cases hstep hreset with ⟨-, hm⟩ | ⟨buf, ticks, err, w, rfl, hticks, -⟩
      · rcases workLeft_move_lt h.turnTaken hbusy hm with hlt | ⟨rfl, -⟩
        · exact Nat.le_of_lt hlt
        · exact Nat.le_refl _
      · exact workLeft_of_environment buf ticks err w hticks

end Sys2Proof.Machine
end

section
/-! PROOFS. The laws of CRC8 (spec/40_frame_codec.md R92): it is linear, a checked span has CRC8 zero, and so an error
pattern is missed only when its own CRC8 is zero. -/

namespace Sys2Proof.Machine

/-! Linearity. -/

/-- The library's laws for the zero that CRC8 starts from, a numeral. -/
theorem byte_xor_zero (b : Byte) : b ^^^ 0 = b := BitVec.xor_zero
theorem byte_zero_xor (b : Byte) : 0 ^^^ b = b := BitVec.zero_xor

theorem crcBit_xor (a b : Byte) : crcBit (a ^^^ b) = crcBit a ^^^ crcBit b := by
  have hshift : (a ^^^ b) <<< 1 = a <<< 1 ^^^ b <<< 1 := BitVec.shiftLeft_xor_distrib a b 1
  unfold crcBit
  rw [BitVec.msb_xor, hshift]
  cases a.msb <;> cases b.msb
  · rfl
  · simp [BitVec.xor_assoc]
  · simp only [Bool.xor_false, if_true, Bool.false_eq_true, if_false]
    ac_rfl
  · simp only [Bool.xor_true, Bool.not_true, Bool.false_eq_true, if_false, if_true]
    have hcancel : (0x07 : Byte) ^^^ 0x07 = 0 := by decide
    calc a <<< 1 ^^^ b <<< 1 = a <<< 1 ^^^ b <<< 1 ^^^ ((0x07 : Byte) ^^^ 0x07) := by
          rw [hcancel, byte_xor_zero]
      _ = _ := by ac_rfl

/-- The eight turns of one byte, once it is XORed in (R91). -/
def crcShift (c : Byte) : Byte := crcBit (crcBit (crcBit (crcBit (crcBit (crcBit (crcBit (crcBit c)))))))

theorem crcByte_eq_crcShift (c b : Byte) : crcByte c b = crcShift (c ^^^ b) := rfl

theorem crcByte_zero (c : Byte) : crcByte c 0 = crcShift c := by
  rw [crcByte_eq_crcShift, byte_xor_zero]

theorem crcShift_xor (a b : Byte) : crcShift (a ^^^ b) = crcShift a ^^^ crcShift b := by
  simp only [crcShift, crcBit_xor]

theorem crcByte_xor (c d a b : Byte) : crcByte (c ^^^ d) (a ^^^ b) = crcByte c a ^^^ crcByte d b := by
  have hmix : (c ^^^ d) ^^^ (a ^^^ b) = (c ^^^ a) ^^^ (d ^^^ b) := by ac_rfl
  rw [crcByte_eq_crcShift, hmix, crcShift_xor, ← crcByte_eq_crcShift, ← crcByte_eq_crcShift]

theorem foldl_crcByte_xor : ∀ (a b : List Byte) (c d : Byte), a.length = b.length →
    (xorBytes a b).foldl crcByte (c ^^^ d) = a.foldl crcByte c ^^^ b.foldl crcByte d
  | [], [], _, _, _ => rfl
  | x :: a, y :: b, c, d, hlen => by
    have hrest : a.length = b.length := Nat.succ.inj hlen
    have hstep := foldl_crcByte_xor a b (crcByte c x) (crcByte d y) hrest
    rw [← crcByte_xor] at hstep
    exact hstep

theorem crc8_xorBytes {a b : List Byte} (hlen : a.length = b.length) : crc8 (xorBytes a b) = crc8 a ^^^ crc8 b := by
  have h := foldl_crcByte_xor a b 0 0 hlen
  rwa [byte_xor_zero] at h

/-- Settles O2: `crc8_xorBytes`, by induction on the two sequences from any two initial values. -/
theorem checksumIsLinear : Obligations.ChecksumIsLinear := by
  unfold Obligations.ChecksumIsLinear
  exact fun _ _ => crc8_xorBytes

/-! The check of a span is that its CRC8 is zero. -/

theorem crcShift_zero : crcShift 0 = 0 := crcByte_zero_zero

theorem crcBit_eq_zero {c : Byte} (h : crcBit c = 0) : c = 0 := by
  revert c; decide

/-- The byte step loses nothing: only zero goes to zero. -/
theorem crcShift_eq_zero {c : Byte} (h : crcShift c = 0) : c = 0 := by
  exact crcBit_eq_zero (crcBit_eq_zero (crcBit_eq_zero (crcBit_eq_zero (crcBit_eq_zero (crcBit_eq_zero
    (crcBit_eq_zero (crcBit_eq_zero h)))))))

theorem crcByte_self (c : Byte) : crcByte c c = 0 := by
  rw [crcByte_eq_crcShift, BitVec.xor_self]
  exact crcShift_zero

theorem crcByte_eq_zero_iff {c b : Byte} : crcByte c b = 0 ↔ b = c := by
  constructor
  · intro h
    rw [crcByte_eq_crcShift] at h
    exact (BitVec.xor_eq_zero_iff.mp (crcShift_eq_zero h)).symm
  · rintro rfl
    exact crcByte_self b

/-- Settles O3: the last byte step XORs the CRC with itself. -/
theorem checksumOfCheckedBytesIsZero : Obligations.ChecksumOfCheckedBytesIsZero := by
  unfold Obligations.ChecksumOfCheckedBytesIsZero
  intro bytes
  rw [crc8_append_byte, crcByte_self]

theorem checkHolds_iff {span : List Byte} (hne : span ≠ []) : checkHolds span ↔ crc8 span = 0 := by
  have hsplit := List.dropLast_concat_getLast hne
  rw [checkHolds, List.getLast?_eq_some_getLast hne, Option.some.injEq]
  conv => rhs; rw [← hsplit, crc8_append_byte, crcByte_eq_zero_iff]

theorem ne_nil_of_bitsSet {error : List Byte} (h : 0 < bitsSet error) : error ≠ [] := by
  rintro rfl
  exact absurd h (Nat.lt_irrefl 0)

/-- An error pattern whose own CRC8 is not zero makes the check of a good span fail. -/
theorem not_checkHolds_xorBytes {span error : List Byte} (hlen : error.length = span.length)
    (hpos : 0 < bitsSet error) (hcrc : crc8 error ≠ 0) (hgood : checkHolds span) :
    ¬ checkHolds (xorBytes span error) := by
  have herror : 0 < error.length := List.length_pos_iff.mpr (ne_nil_of_bitsSet hpos)
  have hspan : span ≠ [] := List.ne_nil_of_length_pos (hlen ▸ herror)
  have hsum : xorBytes span error ≠ [] := by
    refine List.ne_nil_of_length_pos ?_
    rw [xorBytes, List.length_zipWith]
    omega
  rw [checkHolds_iff hsum, crc8_xorBytes hlen.symm, (checkHolds_iff hspan).mp hgood, byte_zero_xor]
  exact hcrc

/-! An odd number of flips: every turn keeps the parity of the bits set, for the polynomial has an even number of terms. -/

/-- Parity of a XOR, for the bits that any two tests pick from a list. -/
theorem length_filter_xor_mod_two {α : Type} (p q : α → Bool) (l : List α) :
    (l.filter fun i => p i ^^ q i).length % 2 = ((l.filter p).length + (l.filter q).length) % 2 := by
  induction l with
  | nil => rfl
  | cons x l ih => cases hp : p x <;> cases hq : q x <;> simp [hp, hq] <;> omega

theorem bitsOfByte_xor_mod_two (a b : Byte) : bitsOfByte (a ^^^ b) % 2 = (bitsOfByte a + bitsOfByte b) % 2 := by
  simp only [bitsOfByte, BitVec.getLsbD_xor]
  exact length_filter_xor_mod_two _ _ _

theorem bitsOfByte_crcBit_mod_two (c : Byte) : bitsOfByte (crcBit c) % 2 = bitsOfByte c % 2 := by
  revert c; decide

theorem bitsOfByte_crcByte_mod_two (c b : Byte) :
    bitsOfByte (crcByte c b) % 2 = (bitsOfByte c + bitsOfByte b) % 2 := by
  simp only [crcByte, bitsOfByte_crcBit_mod_two, bitsOfByte_xor_mod_two]

theorem bitsOfByte_foldl_mod_two (s : List Byte) (c : Byte) :
    bitsOfByte (s.foldl crcByte c) % 2 = (bitsOfByte c + bitsSet s) % 2 := by
  induction s generalizing c with
  | nil => rfl
  | cons b s ih =>
    have hb := bitsOfByte_crcByte_mod_two c b
    rw [List.foldl_cons, ih, bitsSet]
    omega

theorem crc8_ne_zero_of_odd {error : List Byte} (hodd : bitsSet error % 2 = 1) : crc8 error ≠ 0 := by
  intro h
  have hparity := bitsOfByte_foldl_mod_two error 0
  have hzero : bitsOfByte 0 = 0 := by decide
  have hfold : error.foldl crcByte 0 = 0 := h
  rw [hfold, hzero] at hparity
  omega

/-- Settles O5: an odd pattern has an odd, so a nonzero, CRC8. -/
theorem checksumDetectsOddFlips : Obligations.ChecksumDetectsOddFlips := by
  unfold Obligations.ChecksumDetectsOddFlips
  intro span error hlen hodd
  exact not_checkHolds_xorBytes hlen (by omega) (crc8_ne_zero_of_odd hodd)

/-! Two flips: a bit carried over up to ten bytes is never again a single bit, so no second flip cancels it. -/

theorem eq_zero_of_bitsOfByte {b : Byte} (h : bitsOfByte b = 0) : b = 0 := by
  revert b; decide

/-- A CRC carried over `k` zero bytes. -/
def carried : Nat → Byte → Byte
  | 0, c => c
  | k + 1, c => carried k (crcShift c)

/-- The order of the polynomial is 127, and ten bytes are 80 bits. -/
theorem bitsOfByte_carried_ne_one :
    ∀ b : Byte, bitsOfByte b = 1 → ∀ k < 10, bitsOfByte (carried (k + 1) b) ≠ 1 := by
  decide +kernel

/-- Zero bytes carry nothing but zero to zero. -/
theorem eq_zero_of_foldl_crcByte {s : List Byte} {c : Byte} (hbits : bitsSet s = 0)
    (h : s.foldl crcByte c = 0) : c = 0 := by
  induction s generalizing c with
  | nil => exact h
  | cons b s ih =>
    obtain ⟨hb, hs⟩ := Nat.add_eq_zero_iff.mp hbits
    obtain rfl := eq_zero_of_bitsOfByte hb
    rw [List.foldl_cons, crcByte_zero] at h
    exact crcShift_eq_zero (ih hs h)

/-- A single bit ahead cancels only a value that has been carried to a single bit. -/
theorem exists_single_bit_of_foldl {s : List Byte} {c : Byte} (hbits : bitsSet s = 1)
    (h : s.foldl crcByte c = 0) : ∃ k < s.length, bitsOfByte (carried k c) = 1 := by
  induction s generalizing c with
  | nil => exact absurd hbits nofun
  | cons b s ih =>
    have hsum : bitsOfByte b + bitsSet s = 1 := hbits
    rcases Nat.eq_zero_or_pos (bitsOfByte b) with hb | hb
    · obtain rfl := eq_zero_of_bitsOfByte hb
      rw [List.foldl_cons, crcByte_zero] at h
      obtain ⟨k, hk, hone⟩ := ih (by omega) h
      exact ⟨k + 1, Nat.succ_lt_succ hk, hone⟩
    · have hstep : crcByte c b = 0 := eq_zero_of_foldl_crcByte (by omega) h
      obtain rfl := crcByte_eq_zero_iff.mp hstep
      exact ⟨0, Nat.succ_pos _, by rw [carried]; omega⟩

theorem crc8_ne_zero_of_two {error : List Byte} (hlen : error.length ≤ 11) (hbits : bitsSet error = 2) :
    crc8 error ≠ 0 := by
  intro h
  induction error with
  | nil => exact absurd hbits nofun
  | cons b rest ih =>
    have hsum : bitsOfByte b + bitsSet rest = 2 := hbits
    have hlen' : rest.length + 1 ≤ 11 := hlen
    have hrest : rest.foldl crcByte (crcByte 0 b) = 0 := h
    rw [crcByte_eq_crcShift, byte_zero_xor] at hrest
    rcases Nat.lt_trichotomy (bitsOfByte b) 1 with hb | hb | hb
    · obtain rfl := eq_zero_of_bitsOfByte (b := b) (by omega)
      exact ih (by omega) (by omega) hrest
    · obtain ⟨k, hk, hone⟩ := exists_single_bit_of_foldl (by omega) hrest
      exact bitsOfByte_carried_ne_one b hb k (by omega) hone
    · obtain rfl := crcShift_eq_zero (eq_zero_of_foldl_crcByte (by omega) hrest)
      exact absurd hb (by decide)

/-- Up to eleven bytes, one, two or three bits never have CRC8 zero. -/
theorem crc8_ne_zero_of_few {error : List Byte} (hlen : error.length ≤ 11) (h1 : 1 ≤ bitsSet error)
    (h3 : bitsSet error ≤ 3) : crc8 error ≠ 0 := by
  rcases Nat.mod_two_eq_zero_or_one (bitsSet error) with heven | hodd
  · exact crc8_ne_zero_of_two hlen (by omega)
  · exact crc8_ne_zero_of_odd hodd

/-- Settles O4: one and three flips are odd, and two are too close together to cancel. -/
theorem checksumDetectsUpToThreeFlips : Obligations.ChecksumDetectsUpToThreeFlips := by
  unfold Obligations.ChecksumDetectsUpToThreeFlips
  intro span error hspan hlen h1 h3
  exact not_checkHolds_xorBytes hlen h1 (crc8_ne_zero_of_few (by omega) h1 h3)

end Sys2Proof.Machine
end

section
/-! PROOFS. Damaged frames (spec/40_frame_codec.md R102): a change of one to three bits in a sealed frame fails the end
marker check or the CRC check, and DECREQ looks at the OP byte before both. -/

namespace Sys2Proof.Machine

/-! Bytes and bits of an error pattern. -/

theorem byteAt_xorBytes {f error : List Byte} (hlen : f.length = error.length) (i : Nat) :
    byteAt (xorBytes f error) i = byteAt f i ^^^ byteAt error i := by
  simp only [byteAt, xorBytes, List.getD_eq_getElem?_getD, List.getElem?_zipWith]
  rcases Nat.lt_or_ge i f.length with hi | hi
  · simp [hi, hlen ▸ hi]
  · simp [hi, hlen ▸ hi]

theorem take_succ_eq {s : List Byte} {n : Nat} (h : n < s.length) : s.take (n + 1) = s.take n ++ [byteAt s n] := by
  rw [List.take_add_one, byteAt, List.getD_eq_getElem?_getD, List.getElem?_eq_getElem h]
  rfl

theorem bitsSet_append (s t : List Byte) : bitsSet (s ++ t) = bitsSet s + bitsSet t := by
  induction s with
  | nil => exact (Nat.zero_add _).symm
  | cons b s ih => rw [List.cons_append, bitsSet, bitsSet, ih, Nat.add_assoc]

theorem bitsOfByte_zero : bitsOfByte 0 = 0 := by decide

/-- A pattern whose last byte is zero has all its bits before it. -/
theorem bitsSet_take_of_last_zero {error : List Byte} {n : Nat} (hlen : error.length = n + 1)
    (hlast : byteAt error n = 0) : bitsSet (error.take n) = bitsSet error := by
  have hsplit := take_succ_eq (s := error) (n := n) (by omega)
  rw [List.take_of_length_le (Nat.le_of_eq hlen), hlast] at hsplit
  conv => rhs; rw [hsplit, bitsSet_append]
  exact (Nat.add_zero _).symm

/-! The CRC check of a frame is the check of its span (R69). -/

theorem checkHolds_take_iff {s : List Byte} {n : Nat} (h : n < s.length) :
    checkHolds (s.take (n + 1)) ↔ byteAt s n = crc8 (s.take n) := by
  rw [take_succ_eq h, checkHolds, List.getLast?_concat, List.dropLast_concat, Option.some.injEq]

theorem checkHolds_sealed (p : List Byte) : checkHolds (p ++ [crc8 p]) := by
  rw [checkHolds, List.getLast?_concat, List.dropLast_concat]

theorem sealFrame_take (p : List Byte) : (sealFrame p).take (p.length + 1) = p ++ [crc8 p] := by
  have hsplit : sealFrame p = (p ++ [crc8 p]) ++ [Config.eof] := by simp [sealFrame]
  rw [hsplit, List.take_left' (by simp)]

theorem byteAt_sealFrame_end (p : List Byte) : byteAt (sealFrame p) (p.length + 1) = Config.eof :=
  byteAt_append_length_add p [crc8 p, Config.eof] 1

/-- What the shared checks say of a sealed frame in which one to three bits are flipped. -/
theorem checkFrame_of_error {α : Type} {L : Nat} {p error : List Byte} (hL : p.length + 2 = L)
    (hlen : error.length = L) (h12 : L ≤ 12) (h1 : 1 ≤ bitsSet error) (h3 : bitsSet error ≤ 3)
    (err : DecodeError → α) (next : α) :
    checkFrame L err (xorBytes (sealFrame p) error) next =
      err (if byteAt error (L - 1) = 0 then .checksum else .truncated) := by
  subst hL
  have hframe : (sealFrame p).length = error.length := by rw [sealFrame_length, hlen]
  have hx : (xorBytes (sealFrame p) error).length = p.length + 2 := by
    rw [xorBytes, List.length_zipWith, sealFrame_length, hlen, Nat.min_self]
  have hend := byteAt_xorBytes hframe (p.length + 1)
  rw [byteAt_sealFrame_end] at hend
  by_cases hlast : byteAt error (p.length + 1) = 0
  · rw [show p.length + 2 - 1 = p.length + 1 from rfl, if_pos hlast]
    have hbits := bitsSet_take_of_last_zero hlen hlast
    have hspan : (error.take (p.length + 1)).length = (p ++ [crc8 p]).length := by simp [hlen]
    have hbad : ¬ checkHolds (xorBytes (p ++ [crc8 p]) (error.take (p.length + 1))) :=
      not_checkHolds_xorBytes hspan (by omega)
        (crc8_ne_zero_of_few (by rw [List.length_take, hlen]; omega) (by omega) (by omega)) (checkHolds_sealed p)
    rw [← sealFrame_take, xorBytes, ← List.take_zipWith, ← xorBytes, checkHolds_take_iff (by omega)] at hbad
    refine checkFrame_of_crc_ne (Nat.le_of_eq hx.symm) ?_ hbad
    rw [hlast, byte_xor_zero] at hend
    exact hend
  · rw [show p.length + 2 - 1 = p.length + 1 from rfl, if_neg hlast]
    refine checkFrame_of_end_ne (hend ▸ fun h => hlast ?_)
    have hcancel : (Config.eof ^^^ byteAt error (p.length + 1)) ^^^ Config.eof = Config.eof ^^^ Config.eof := by rw [h]
    rwa [BitVec.xor_self, BitVec.xor_comm, ← BitVec.xor_assoc, BitVec.xor_self, BitVec.zero_xor] at hcancel

/-! Responses. -/

theorem dec_read_of_error (st : Byte) (v : Word) {error : List Byte} (hlen : error.length = 9)
    (h1 : 1 ≤ bitsSet error) (h3 : bitsSet error ≤ 3) :
    dec .read (xorBytes (rspEncRead st v) error) = .err (if byteAt error 8 = 0 then .checksum else .truncated) := by
  rw [dec_eq_checkFrame]
  exact checkFrame_of_error (L := 9) (p := rspReadPayload st v) rfl hlen (by decide) h1 h3 _ _

theorem dec_write_of_error (st : Byte) {error : List Byte} (hlen : error.length = 5)
    (h1 : 1 ≤ bitsSet error) (h3 : bitsSet error ≤ 3) :
    dec .write (xorBytes (rspEncWrite st) error) = .err (if byteAt error 4 = 0 then .checksum else .truncated) := by
  rw [dec_eq_checkFrame]
  exact checkFrame_of_error (L := 5) (p := rspWritePayload st) rfl hlen (by decide) h1 h3 _ _

/-! Requests. -/

theorem enc_eq_sealFrame (op : Opcode) (a d : Word) :
    ∃ p, enc op a d = sealFrame p ∧ p.length + 2 = txlenOf op := by
  cases op with
  | read => exact ⟨reqReadPayload a, rfl, rfl⟩
  | write => exact ⟨reqWritePayload a d, rfl, rfl⟩

/-- The two tags differ in two bits, so no other change leads from a tag to a tag. -/
theorem opTag_xor_reserved (op : Opcode) {e : Byte} (h0 : e ≠ 0) (hswap : e ≠ 0x03) :
    opTag op ^^^ e ≠ Config.tagRead ∧ opTag op ^^^ e ≠ Config.tagWrite := by
  revert e
  cases op <;> decide

section Requests
variable (op : Opcode) (a d : Word) {error : List Byte} (hlen : error.length = txlenOf op)
include hlen

theorem byteAt_enc_error_tag : byteAt (xorBytes (enc op a d) error) 1 = opTag op ^^^ byteAt error 1 := by
  rw [byteAt_xorBytes (by rw [enc_length, hlen])]
  cases op <;> rfl

theorem two_le_length_enc_error : 2 ≤ (xorBytes (enc op a d) error).length := by
  rw [xorBytes, List.length_zipWith, enc_length, hlen, Nat.min_self]
  cases op <;> decide

/-- The OP byte as it was: the shared checks decide. -/
theorem decReq_of_error (htag : byteAt error 1 = 0) (h1 : 1 ≤ bitsSet error) (h3 : bitsSet error ≤ 3) :
    decReq (xorBytes (enc op a d) error) =
      .err (if byteAt error (txlenOf op - 1) = 0 then .checksum else .truncated) := by
  have hop := byteAt_enc_error_tag op a d hlen
  rw [htag, byte_xor_zero] at hop
  rw [decReq_of_tag (two_le_length_enc_error op a d hlen) hop]
  obtain ⟨p, hp, hplen⟩ := enc_eq_sealFrame op a d
  rw [hp]
  exact checkFrame_of_error hplen hlen (txlenOf_le op) h1 h3 _ _

/-- An OP byte that became a reserved tag: DECREQ knows no length (R100). -/
theorem decReq_of_tag_error (h0 : byteAt error 1 ≠ 0) (hswap : byteAt error 1 ≠ 0x03) :
    decReq (xorBytes (enc op a d) error) = .err .opcode := by
  obtain ⟨hread, hwrite⟩ := opTag_xor_reserved op h0 hswap
  rw [← byteAt_enc_error_tag op a d hlen] at hread hwrite
  exact decReq_of_reserved_tag (two_le_length_enc_error op a d hlen) hread hwrite

end Requests

/-- A READ request whose OP byte became that of a WRITE is too short for one. -/
theorem decReq_of_read_as_write (a : Word) {error : List Byte} (hlen : error.length = 8)
    (hswap : byteAt error 1 = 0x03) : decReq (xorBytes (encRead a) error) = .err .truncated := by
  have hop := byteAt_enc_error_tag .read a 0 hlen
  rw [hswap] at hop
  have h2 := two_le_length_enc_error .read a 0 hlen
  refine (decReq_of_tag (op := .write) h2 hop).trans (checkFrame_of_short ?_)
  rw [xorBytes, List.length_zipWith, hlen]
  exact Nat.lt_of_le_of_lt (Nat.min_le_right _ _) (by decide)

/-- Settles O15: every frame by the lemma of its decoder, a changed OP byte by what it became. -/
theorem noSmallChangeOfAResponseIsAccepted : Obligations.NoSmallChangeOfAResponseIsAccepted := by
  unfold Obligations.NoSmallChangeOfAResponseIsAccepted
  refine ⟨fun st v error hlen h1 h3 => ⟨_, dec_read_of_error _ v hlen h1 h3⟩,
    fun st error hlen h1 h3 => ⟨_, dec_write_of_error _ hlen h1 h3⟩,
    fun a error hlen h1 h3 => ?_, fun a d error hlen h1 h3 hswap => ?_⟩
  · by_cases h0 : byteAt error 1 = 0
    · exact ⟨_, decReq_of_error .read a 0 hlen h0 h1 h3⟩
    · by_cases hswap : byteAt error 1 = 0x03
      · exact ⟨_, decReq_of_read_as_write a hlen hswap⟩
      · exact ⟨_, decReq_of_tag_error .read a 0 hlen h0 hswap⟩
  · by_cases h0 : byteAt error 1 = 0
    · exact ⟨_, decReq_of_error .write a d hlen h0 h1 h3⟩
    · exact ⟨_, decReq_of_tag_error .write a d hlen h0 hswap⟩

/-! One flipped bit is an error pattern of weight one. -/

/-- The pattern of `n` bytes that flips one bit of byte `k`. -/
def singleFlip (n k bit : Nat) : List Byte := (List.replicate n 0).set k ((1 : Byte) <<< bit)

@[simp] theorem singleFlip_length (n k bit : Nat) : (singleFlip n k bit).length = n := by
  simp [singleFlip]

theorem byteAt_singleFlip {n k : Nat} (hk : k < n) (bit i : Nat) :
    byteAt (singleFlip n k bit) i = if i = k then (1 : Byte) <<< bit else 0 := by
  rw [byteAt, singleFlip, List.getD_eq_getElem?_getD]
  by_cases hik : i = k
  · rw [hik, List.getElem?_set_self (by simpa using hk), if_pos rfl]
    rfl
  · rw [List.getElem?_set_ne (Ne.symm hik), if_neg hik]
    rcases Nat.lt_or_ge i n with hi | hi
    · simp [hi]
    · rw [List.getElem?_eq_none (by simpa using hi)]
      rfl

theorem bit_ne_zero : ∀ bit < 8, (1 : Byte) <<< bit ≠ 0 := by decide

/-- A single bit is no way from one tag to the other. -/
theorem bit_ne_three : ∀ bit < 8, (1 : Byte) <<< bit ≠ 0x03 := by decide

theorem bitsSet_replicate_zero (n : Nat) : bitsSet (List.replicate n 0) = 0 := by
  induction n with
  | zero => rfl
  | succ n ih => rw [List.replicate_succ, bitsSet, ih, bitsOfByte_zero]

theorem bitsSet_singleFlip {n k bit : Nat} (hk : k < n) (hbit : bit < 8) : bitsSet (singleFlip n k bit) = 1 := by
  have hone : ∀ bit < 8, bitsOfByte ((1 : Byte) <<< bit) = 1 := by decide
  induction n generalizing k with
  | zero => exact absurd hk (Nat.not_lt_zero k)
  | succ n ih =>
    cases k with
    | zero =>
      rw [singleFlip, List.replicate_succ, List.set_cons_zero, bitsSet, hone bit hbit, bitsSet_replicate_zero]
    | succ k =>
      rw [singleFlip, List.replicate_succ, List.set_cons_succ, bitsSet, bitsOfByte_zero, Nat.zero_add]
      exact ih (Nat.lt_of_succ_lt_succ hk)

theorem flipBit_eq_xorBytes {f : List Byte} {n k : Nat} (hlen : f.length = n) (hk : k < n) (bit : Nat) :
    flipBit f k bit = xorBytes f (singleFlip n k bit) := by
  subst hlen
  apply List.ext_getElem
  · simp [flipBit, xorBytes]
  · intro i hi _
    have hif : i < f.length := by simpa [flipBit] using hi
    have hbyte : byteAt f k = f[k] := by simp [byteAt, hk]
    simp only [flipBit, xorBytes, singleFlip, List.getElem_set, List.getElem_zipWith, List.getElem_replicate, hbyte]
    by_cases hki : k = i
    · subst hki
      rw [if_pos rfl, if_pos rfl]
    · rw [if_neg hki, if_neg hki, byte_xor_zero]

/-- The kind of a single flip: in the end marker it truncates, elsewhere it fails the CRC. -/
theorem kind_singleFlip {n k bit : Nat} (hk : k < n) (hbit : bit < 8) :
    (if byteAt (singleFlip n k bit) (n - 1) = 0 then DecodeError.checksum else .truncated) =
      if k = n - 1 then .truncated else .checksum := by
  rw [byteAt_singleFlip hk]
  by_cases hlast : k = n - 1
  · rw [if_pos hlast.symm, if_neg (bit_ne_zero bit hbit), if_pos hlast]
  · rw [if_neg (Ne.symm hlast), if_pos rfl, if_neg hlast]

theorem decReq_flipBit (op : Opcode) (a d : Word) {k bit : Nat} (hk : k < txlenOf op) (hbit : bit < 8) :
    decReq (flipBit (enc op a d) k bit) =
      .err (if k = txlenOf op - 1 then .truncated else if k = 1 then .opcode else .checksum) := by
  have hlen := singleFlip_length (txlenOf op) k bit
  have hbits := bitsSet_singleFlip hk hbit
  rw [flipBit_eq_xorBytes (enc_length op a d) hk]
  by_cases htag : k = 1
  · subst htag
    have hbyte : byteAt (singleFlip (txlenOf op) 1 bit) 1 = (1 : Byte) <<< bit := by
      rw [byteAt_singleFlip hk, if_pos rfl]
    have hnot : 1 ≠ txlenOf op - 1 := by cases op <;> decide
    rw [decReq_of_tag_error op a d hlen (hbyte ▸ bit_ne_zero bit hbit) (hbyte ▸ bit_ne_three bit hbit), if_neg hnot,
      if_pos rfl]
  · have hbyte : byteAt (singleFlip (txlenOf op) k bit) 1 = 0 := by
      rw [byteAt_singleFlip hk, if_neg (Ne.symm htag)]
    rw [decReq_of_error op a d hlen hbyte (by omega) (by omega), kind_singleFlip hk hbit, if_neg htag]

/-- Settles O14: a single flip is a pattern of weight one, whose place decides the kind. -/
theorem singleFlipKinds : Obligations.SingleFlipKinds := by
  unfold Obligations.SingleFlipKinds
  refine ⟨fun st v k bit hk hbit => ?_, fun st k bit hk hbit => ?_,
    fun a k bit hk hbit => decReq_flipBit .read a 0 hk hbit, fun a d k bit hk hbit => decReq_flipBit .write a d hk hbit⟩
  · have hbits := bitsSet_singleFlip hk hbit
    rw [flipBit_eq_xorBytes (rspEncRead_length _ v) hk]
    exact (dec_read_of_error _ v (singleFlip_length 9 k bit) (by omega) (by omega)).trans
      (congrArg _ (kind_singleFlip hk hbit))
  · have hbits := bitsSet_singleFlip hk hbit
    rw [flipBit_eq_xorBytes (rspEncWrite_length _) hk]
    exact (dec_write_of_error _ (singleFlip_length 5 k bit) (by omega) (by omega)).trans
      (congrArg _ (kind_singleFlip hk hbit))

end Sys2Proof.Machine
end

section
/-! PROOFS. The codec as operations and at its edges: ENC and DEC by tag (spec/40_frame_codec.md R95, R96), reserved tags,
the status codes (spec/60_exceptions.md R181, R188), the peer (spec/30_encoding.md R76) and written-out words. -/

namespace Sys2Proof.Machine

/-! ENC and DEC as operations. -/

theorem exec_enc_of_op {tag : Byte} {op : Opcode} (h : opOfTag tag = some op) (a d : Word) (s : State) :
    exec (.enc tag a d) s =
      .next { s with opResult := .encoded (enc op a d) (txlenOf op) (explenOf op) } := by
  simp only [exec, execEnc, h, answer]

theorem exec_dec_of_op {tag : Byte} {op : Opcode} (h : opOfTag tag = some op) (bytes : List Byte) (s : State) :
    exec (.dec tag bytes) s = .next { s with opResult := .decoded (dec op bytes) } := by
  simp only [exec, execDec, h, answer]

theorem exec_decRead (bytes : List Byte) (s : State) :
    exec (.decRead bytes) s = .next { s with opResult := .decoded (dec .read bytes) } := rfl

theorem exec_decWrite (bytes : List Byte) (s : State) :
    exec (.decWrite bytes) s = .next { s with opResult := .decoded (dec .write bytes) } := rfl

/-- Settles O7: the two tags name the two operations. -/
theorem encoderByTag : Obligations.EncoderByTag := by
  unfold Obligations.EncoderByTag
  exact fun a d s => ⟨exec_enc_of_op (opOfTag_opTag .read) a d s, exec_enc_of_op (opOfTag_opTag .write) a d s⟩

/-- Settles O9: DEC by the operation its tag names, DEC.READ and DEC.WRITE by their own. -/
theorem decodersReturnTheirValue : Obligations.DecodersReturnTheirValue := by
  unfold Obligations.DecodersReturnTheirValue
  exact fun bytes s => ⟨exec_dec_of_op (opOfTag_opTag .read) bytes s, exec_dec_of_op (opOfTag_opTag .write) bytes s,
    exec_decRead bytes s, exec_decWrite bytes s⟩

/-! Reserved tags (notes/assumptions/6). -/

theorem exec_enc_of_reserved {tag : Byte} (h : opOfTag tag = none) (a d : Word) (s : State) :
    exec (.enc tag a d) s = .fault .tagUndefined := by
  simp only [exec, execEnc, h]

theorem exec_dec_of_reserved {tag : Byte} (h : opOfTag tag = none) (bytes : List Byte) (s : State) :
    exec (.dec tag bytes) s = .fault .tagUndefined := by
  simp only [exec, execDec, h]

theorem withLatchedOp_none {s : State} (h : opOfTag s.reqOp = none) (k : Opcode → Out) :
    withLatchedOp s k = .fault .tagUndefined := by
  rw [withLatchedOp, h]

/-- Settles O10: every use of the tag goes through `opOfTag`, which answers none for a reserved one. -/
theorem reservedTagsStop : Obligations.ReservedTagsStop := by
  unfold Obligations.ReservedTagsStop
  refine ⟨fun tag a d bytes s hread hwrite => ?_, fun st v c s hread hwrite => ?_⟩
  · have hnone := opOfTag_eq_none hread hwrite
    exact ⟨exec_enc_of_reserved hnone a d s, exec_dec_of_reserved hnone bytes s⟩
  · have hstop := withLatchedOp_none (opOfTag_eq_none hread hwrite)
    refine ⟨fun hs => ?_, fun hs hfail hidx => ?_, fun hs herr => ?_, fun hs herr hbuf htimer => ?_,
      fun hs => ⟨?_, ?_, ?_, ?_⟩⟩
    · simp [exec, execT4, hs, hstop]
    · simp [exec, execT6, hs, hfail, nextTxByte_of_lt hidx, hstop]
    · simp [exec, execT8, hs, recvResult_of_rxErr herr, hstop]
    · simp [exec, execT9, hs, recvResult_of_timeout herr hbuf htimer, hstop]
    · simp [exec, execT10, hs, hstop]
    · simp [exec, execT11, hs, hstop]
    · simp [exec, execRspRead, hs, hstop]
    · simp [exec, execRspWrite, hs, hstop]

/-- Settles O52: DEC has checked the reserved bits, and of the seven codes only the transport codes have one set. -/
theorem transportCodesAreDisjoint : Obligations.TransportCodesAreDisjoint := by
  unfold Obligations.TransportCodesAreDisjoint
  refine ⟨fun _ _ _ => dec_status_legal, fun st h => ?_⟩
  rcases h with rfl | rfl | rfl | rfl | rfl | rfl | rfl <;> decide

/-! The peer. -/

theorem peerAccess_of_err {bytes : List Byte} {k : DecodeError} (h : decReq bytes = .err k) :
    peerAccess bytes = none := by
  rw [peerAccess, h]

theorem peerAccess_encRead (a : Word) : peerAccess (encRead a) = some (.read, a, 0) := by
  rw [peerAccess, decReq_encRead]

theorem peerAccess_encWrite (a d : Word) : peerAccess (encWrite a d) = some (.write, a, d) := by
  rw [peerAccess, decReq_encWrite]

/-- Settles O16: the peer's access is what DECREQ says, and its answer follows the access. -/
theorem peerAnswersWellFormedRequests : Obligations.PeerAnswersWellFormedRequests := by
  unfold Obligations.PeerAnswersWellFormedRequests
  refine ⟨fun bus a => ⟨peerAccess_encRead a, ?_⟩, fun bus a d => ⟨peerAccess_encWrite a d, ?_⟩,
    fun bus bytes k h => ⟨peerAccess_of_err h, ?_⟩⟩
  · rw [peerAnswer, peerAccess_encRead]; rfl
  · rw [peerAnswer, peerAccess_encWrite]; rfl
  · rw [peerAnswer, peerAccess_of_err h]

/-- Settles O18: the decoder, run on each word. -/
theorem writtenWordsDecode : Obligations.WrittenWordsDecode := by
  unfold Obligations.WrittenWordsDecode
  exact ⟨rfl, rfl, rfl, rfl, rfl, rfl, rfl, rfl, rfl⟩

/-- Settles O43: the values that State.reset lists. -/
theorem stateAfterPowerOn : Obligations.StateAfterPowerOn := by
  unfold Obligations.StateAfterPowerOn
  exact ⟨rfl, rfl, rfl, rfl, rfl⟩

end Sys2Proof.Machine
end

section
/-! PROOFS. The frames as instructions: a request frame loads TXBUF in PREP (spec/41_transaction_engine.md R125), a
response frame is judged in DECODE (R131, R132). -/

namespace Sys2Proof.Machine

/-! Request frames and T4. -/

theorem exec_reqRead_of_prep (a : Word) (crc : Byte) {s : State} (h : s.teState = .prep) :
    exec (.reqRead a crc) s = .next (loadRequest .read (encRead a) s) := by
  simp [exec, execReqRead, h]

theorem exec_reqWrite_of_prep (a d : Word) (crc : Byte) {s : State} (h : s.teState = .prep) :
    exec (.reqWrite a d crc) s = .next (loadRequest .write (encWrite a d) s) := by
  simp [exec, execReqWrite, h]

theorem getD_of_lt {f : List Byte} {k : Nat} (h : k < f.length) (b : Byte) : f.getD k b = f[k] := by
  rw [List.getD_eq_getElem?_getD, List.getElem?_eq_getElem h, Option.getD_some]

/-- TXBUF below the frame's length is the frame, whatever stands for a byte past it (R18). -/
theorem writeFrame_get_of_lt (buf : Vector Byte 12) {f : List Byte} {k : Nat} (hk : k < 12) (h : k < f.length) :
    (writeFrame buf f)[k] = f.getD k 0 := by
  rw [writeFrame_get, getD_of_lt h, getD_of_lt h]

theorem writeFrame_get_of_ge (buf : Vector Byte 12) {f : List Byte} {k : Nat} (hk : k < 12) (h : f.length ≤ k) :
    (writeFrame buf f)[k] = buf[k] := by
  rw [writeFrame_get, List.getD_eq_getElem?_getD, List.getElem?_eq_none h, Option.getD_none]

/-- Settles O34: T4 and a request frame both load the frame of their operands. -/
theorem flushAndEncode : Obligations.FlushAndEncode := by
  unfold Obligations.FlushAndEncode
  intro s hprep i a d
  constructor
  · intro hi
    have hexec : exec i s = .next (loadRequest .read (encRead a) s) := by
      rcases hi with ⟨c, rfl⟩ | ⟨rfl, hop, rfl⟩
      · exact exec_reqRead_of_prep a c hprep
      · exact exec_t4_of_prep hprep (opOfTag_of_eq (op := .read) hop)
    refine ⟨_, hexec, rfl, fun k hk => ?_⟩
    rw [loadRequest]
    by_cases hlt : k < 8
    · rw [if_pos hlt]
      exact writeFrame_get_of_lt s.txbuf hk hlt
    · rw [if_neg hlt]
      exact writeFrame_get_of_ge s.txbuf hk (Nat.le_of_not_lt hlt)
  · intro hi
    have hexec : exec i s = .next (loadRequest .write (encWrite a d) s) := by
      rcases hi with ⟨c, rfl⟩ | ⟨rfl, hop, rfl, rfl⟩
      · exact exec_reqWrite_of_prep a d c hprep
      · exact exec_t4_of_prep hprep (opOfTag_of_eq (op := .write) hop)
    exact ⟨_, hexec, rfl, fun k hk => writeFrame_get_of_lt s.txbuf hk hk⟩

/-! Response frames, T10 and T11. -/

section Responses
variable {s : State} {op : Opcode} (hdecode : s.teState = .decode) (hop : opOfTag s.reqOp = some op)
include hdecode hop

theorem exec_rspRead_of_decode (st : BitVec 2) (v : Word) (crc : Byte) :
    exec (.rspRead st v crc) s =
      .next (judge op (rspReadPayload (statusByte st) v ++ [crc, Config.eof]) s) := by
  simp [exec, execRspRead, hdecode, withLatchedOp_some hop]

theorem exec_rspWrite_of_decode (st : BitVec 2) (crc : Byte) :
    exec (.rspWrite st crc) s = .next (judge op (rspWritePayload (statusByte st) ++ [crc, Config.eof]) s) := by
  simp [exec, execRspWrite, hdecode, withLatchedOp_some hop]

end Responses

theorem judge_of_err {op : Opcode} {bytes : List Byte} {k : DecodeError} (h : dec op bytes = .err k) (s : State) :
    judge op bytes s = attemptFailed op s := by
  rw [judge, h]

theorem judge_of_decodedOk_eq_false {op : Opcode} {bytes : List Byte} (h : decodedOk (dec op bytes) = false)
    (s : State) : judge op bytes s = attemptFailed op s := by
  cases hd : dec op bytes with
  | err k => exact judge_of_err hd s
  | okRead st v | okWrite st => rw [hd] at h; cases h

/-- A frame with another tag is no answer to the request. -/
theorem decodedOk_of_tag_ne {op : Opcode} {bytes : List Byte} (h : byteAt bytes 1 ≠ opTag op) :
    decodedOk (dec op bytes) = false := by
  refine Bool.eq_false_iff.mpr fun hok => ?_
  obtain ⟨-, -, -, -, htag, -, -⟩ := dec_ok hok
  exact h htag

/-- A frame with a CRC field that is not the computed one is rejected. -/
theorem decodedOk_of_crc_ne {op : Opcode} {p : List Byte} {crc : Byte} (hlen : p.length + 2 = explenOf op)
    (h : crc ≠ crc8 p) : decodedOk (dec op (p ++ [crc, Config.eof])) = false := by
  refine Bool.eq_false_iff.mpr fun hok => h ?_
  obtain ⟨-, -, hcrc, -, -, -, -⟩ := dec_ok hok
  rw [← hlen, Nat.add_sub_cancel, List.take_left] at hcrc
  exact (byteAt_append_length_add p [crc, Config.eof] 0).symm.trans hcrc

theorem wf_rspRead_iff (st : BitVec 2) (v : Word) (crc : Byte) :
    (Instr.rspRead st v crc).wf = true ↔ crc = crc8 (rspReadPayload (statusByte st) v) := by
  simp [Instr.wf]

theorem exec_rspRead_of_wf {st : BitVec 2} {v : Word} {crc : Byte} {s : State} (hdecode : s.teState = .decode)
    (hop : s.reqOp = opTag .read) (hwf : (Instr.rspRead st v crc).wf = true) :
    exec (.rspRead st v crc) s = .next (complete .read (statusByte st) { s with rdata := v }) := by
  obtain rfl := (wf_rspRead_iff st v crc).mp hwf
  have hdec : dec .read (rspEncRead (statusByte st) v) = .okRead (statusByte st) v :=
    dec_read_rspEncRead (statusLegal_statusByte st) v
  rw [exec_rspRead_of_decode hdecode (opOfTag_of_eq hop)]
  exact congrArg _ (judge_of_okRead hdec s)

theorem exec_rspWrite_of_wf {st : BitVec 2} {crc : Byte} {s : State} (hdecode : s.teState = .decode)
    (hop : s.reqOp = opTag .write) (hwf : (Instr.rspWrite st crc).wf = true) :
    exec (.rspWrite st crc) s = .next (complete .write (statusByte st) s) := by
  obtain rfl := (wf_rspWrite_iff st crc).mp hwf
  have hdec : dec .write (rspEncWrite (statusByte st)) = .okWrite (statusByte st) :=
    dec_write_rspEncWrite (statusLegal_statusByte st)
  rw [exec_rspWrite_of_decode hdecode (opOfTag_of_eq hop)]
  exact congrArg _ (judge_of_okWrite hdec s)

/-- The latched opcode is another one, or the CRC field is wrong: the frame costs the attempt. -/
theorem exec_rspRead_of_bad {st : BitVec 2} {v : Word} {crc : Byte} {s : State} {op : Opcode}
    (hdecode : s.teState = .decode) (hop : s.reqOp = opTag op)
    (hbad : op = .write ∨ (Instr.rspRead st v crc).wf = false) :
    exec (.rspRead st v crc) s = .next (attemptFailed op s) := by
  rw [exec_rspRead_of_decode hdecode (opOfTag_of_eq hop), judge_of_decodedOk_eq_false]
  cases op with
  | write => exact decodedOk_of_tag_ne (show Config.tagRead ≠ opTag .write by decide)
  | read =>
    have hwf := hbad.resolve_left nofun
    exact decodedOk_of_crc_ne rfl fun hcrc => Bool.false_ne_true (hwf.symm.trans ((wf_rspRead_iff st v crc).mpr hcrc))

theorem exec_rspWrite_of_bad {st : BitVec 2} {crc : Byte} {s : State} {op : Opcode}
    (hdecode : s.teState = .decode) (hop : s.reqOp = opTag op)
    (hbad : op = .read ∨ (Instr.rspWrite st crc).wf = false) :
    exec (.rspWrite st crc) s = .next (attemptFailed op s) := by
  rw [exec_rspWrite_of_decode hdecode (opOfTag_of_eq hop), judge_of_decodedOk_eq_false]
  cases op with
  | read => exact decodedOk_of_tag_ne (show Config.tagWrite ≠ opTag .read by decide)
  | write =>
    have hwf := hbad.resolve_left nofun
    exact decodedOk_of_crc_ne rfl fun hcrc => Bool.false_ne_true (hwf.symm.trans ((wf_rspWrite_iff st crc).mpr hcrc))

/-- Settles O41: a good frame of the latched opcode completes; any other is a failed attempt, which the limit decides. -/
theorem responseFramesComplete : Obligations.ResponseFramesComplete := by
  unfold Obligations.ResponseFramesComplete
  intro st v c s hdecode
  refine ⟨fun hop => exec_rspRead_of_wf hdecode hop, fun hop => exec_rspWrite_of_wf hdecode hop,
    fun hbelow => ⟨fun hbad => ?_, fun hbad => ?_⟩, fun hlimit i hi => ⟨fun hop hbad => ?_, fun hop hbad => ?_⟩⟩
  · rcases hbad with hop | ⟨hop, hwf⟩
    · rw [exec_rspRead_of_bad (op := .write) hdecode hop (.inl rfl), attemptFailed_of_below _ hbelow]
    · rw [exec_rspRead_of_bad (op := .read) hdecode hop (.inr hwf), attemptFailed_of_below _ hbelow]
  · rcases hbad with hop | ⟨hop, hwf⟩
    · rw [exec_rspWrite_of_bad (op := .read) hdecode hop (.inl rfl), attemptFailed_of_below _ hbelow]
    · rw [exec_rspWrite_of_bad (op := .write) hdecode hop (.inr hwf), attemptFailed_of_below _ hbelow]
  · have hexec : exec i s = .next (attemptFailed .read s) := by
      rcases hi with rfl | rfl
      · exact exec_rspRead_of_bad hdecode hop (.inr (hbad rfl))
      · exact exec_rspWrite_of_bad hdecode hop (.inl rfl)
    rw [hexec, attemptFailed_at_limit _ hlimit]; rfl
  · have hexec : exec i s = .next (attemptFailed .write s) := by
      rcases hi with rfl | rfl
      · exact exec_rspRead_of_bad hdecode hop (.inl rfl)
      · exact exec_rspWrite_of_bad hdecode hop (.inr (hbad rfl))
    rw [hexec, attemptFailed_at_limit _ hlimit]; rfl

/-- T11 fails the attempt, whatever the kind (R132). -/
theorem exec_t11_of_err {s : State} {op : Opcode} {k : DecodeError} (hdecode : s.teState = .decode)
    (hop : s.reqOp = opTag op) (herr : dec op (collected s) = .err k) :
    exec .t11 s = .next (attemptFailed op s) := by
  rw [exec_t11_of_decodedErr hdecode (opOfTag_of_eq hop) (by rw [herr]; rfl), judge_of_err herr]

/-- Settles O40: T11 is AttemptFailed of the latched operation, which the limit decides. -/
theorem decodeErrorRetriesUpToTheLimit : Obligations.DecodeErrorRetriesUpToTheLimit := by
  unfold Obligations.DecodeErrorRetriesUpToTheLimit
  intro s k hdecode
  refine ⟨fun hop herr => ?_, fun hop herr => ?_⟩
  · have hexec := exec_t11_of_err (op := .read) hdecode hop herr
    exact ⟨fun hbelow => by rw [hexec, attemptFailed_of_below _ hbelow],
      fun hlimit => by rw [hexec, attemptFailed_at_limit _ hlimit]; rfl⟩
  · have hexec := exec_t11_of_err (op := .write) hdecode hop herr
    exact ⟨fun hbelow => by rw [hexec, attemptFailed_of_below _ hbelow],
      fun hlimit => by rw [hexec, attemptFailed_at_limit _ hlimit]; rfl⟩

end Sys2Proof.Machine
end

section
/-! PROOFS. The guards of the engine's steps (spec/41_transaction_engine.md R122 to R132): where a step is refused. -/

namespace Sys2Proof.Machine

/-! T1 to T3: an IDLE engine and the step's own command at the interface. -/

theorem exec_t1_refused {s : State}
    (h : s.teState = .idle → ∀ dev baud, presented s ≠ some (.connect dev baud)) :
    exec .t1 s = .refused (.stepNotEnabled "T1") := by
  simp only [exec, execT1]
  split
  · exact absurd ‹_› (h ‹_› _ _)
  · rfl

theorem exec_t2_refused {s : State} (h : s.teState = .idle → ∀ a x, presented s ≠ some (.read a x)) :
    exec .t2 s = .refused (.stepNotEnabled "T2") := by
  simp only [exec, execT2]
  split
  · exact absurd ‹_› (h ‹_› _ _)
  · rfl

theorem exec_t3_refused {s : State} (h : s.teState = .idle → ∀ a d, presented s ≠ some (.write a d)) :
    exec .t3 s = .refused (.stepNotEnabled "T3") := by
  simp only [exec, execT3]
  split
  · exact absurd ‹_› (h ‹_› _ _)
  · rfl

/-- CMD_OP of a command word that decodes to a command. -/
theorem cmdOp_of_decodeCommand (w : CommandWord) :
    ((∃ dev baud, decodeCommand w = .connect dev baud) → cmdOp w = Config.cmdConnect) ∧
    ((∃ a x, decodeCommand w = .read a x) → cmdOp w = Config.cmdRead) ∧
    ((∃ a d, decodeCommand w = .write a d) → cmdOp w = Config.cmdWrite) := by
  rw [decodeCommand]
  by_cases hread : cmdOp w = Config.cmdRead
  · simp [hread]
  rw [if_neg hread]
  by_cases hwrite : cmdOp w = Config.cmdWrite
  · simp [hwrite]
  rw [if_neg hwrite]
  by_cases hconnect : cmdOp w = Config.cmdConnect
  · simp [hconnect]
  · rw [if_neg hconnect]
    simp

section Presented
variable {s : State}

theorem presented_ne_of_no_cmd (h : s.cmd = none) (i : Instr) : presented s ≠ some i := by
  simp [presented, h]

theorem presented_connect_cmdOp {w : CommandWord} {dev : DevId} {baud : Word} (hcmd : s.cmd = some (.word w))
    (hp : presented s = some (.connect dev baud)) : cmdOp w = Config.cmdConnect := by
  rw [presented_of_cmd hcmd, Option.some.injEq] at hp
  exact (cmdOp_of_decodeCommand w).1 ⟨dev, baud, hp⟩

theorem presented_read_cmdOp {w : CommandWord} {a : AddrIn} {x : Word} (hcmd : s.cmd = some (.word w))
    (hp : presented s = some (.read a x)) : cmdOp w = Config.cmdRead := by
  rw [presented_of_cmd hcmd, Option.some.injEq] at hp
  exact (cmdOp_of_decodeCommand w).2.1 ⟨a, x, hp⟩

theorem presented_write_cmdOp {w : CommandWord} {a : AddrIn} {d : Word} (hcmd : s.cmd = some (.word w))
    (hp : presented s = some (.write a d)) : cmdOp w = Config.cmdWrite := by
  rw [presented_of_cmd hcmd, Option.some.injEq] at hp
  exact (cmdOp_of_decodeCommand w).2.2 ⟨a, d, hp⟩

/-- A CONNECT with its identifier beside the word is no READ and no WRITE. -/
theorem presented_wideConnect {name : List Byte} {baud : Word} (hcmd : s.cmd = some (.wideConnect name baud)) :
    presented s = some (.connect (.wide name) baud) := presented_of_cmd hcmd

theorem exec_t1_refused_of_guard
    (h : s.teState ≠ .idle ∨ s.cmd = none ∨ ∃ w, s.cmd = some (.word w) ∧ cmdOp w ≠ Config.cmdConnect) :
    exec .t1 s = .refused (.stepNotEnabled "T1") := by
  refine exec_t1_refused fun hidle dev baud hp => ?_
  rcases h with hbusy | hnone | ⟨w, hcmd, hop⟩
  · exact hbusy hidle
  · exact presented_ne_of_no_cmd hnone _ hp
  · exact hop (presented_connect_cmdOp hcmd hp)

theorem exec_t2_refused_of_guard
    (h : s.teState ≠ .idle ∨ s.cmd = none ∨ (∃ w, s.cmd = some (.word w) ∧ cmdOp w ≠ Config.cmdRead) ∨
      ∃ name baud, s.cmd = some (.wideConnect name baud)) :
    exec .t2 s = .refused (.stepNotEnabled "T2") := by
  refine exec_t2_refused fun hidle a x hp => ?_
  rcases h with hbusy | hnone | ⟨w, hcmd, hop⟩ | ⟨name, baud, hcmd⟩
  · exact hbusy hidle
  · exact presented_ne_of_no_cmd hnone _ hp
  · exact hop (presented_read_cmdOp hcmd hp)
  · exact nomatch (presented_wideConnect hcmd).symm.trans hp

theorem exec_t3_refused_of_guard
    (h : s.teState ≠ .idle ∨ s.cmd = none ∨ (∃ w, s.cmd = some (.word w) ∧ cmdOp w ≠ Config.cmdWrite) ∨
      ∃ name baud, s.cmd = some (.wideConnect name baud)) :
    exec .t3 s = .refused (.stepNotEnabled "T3") := by
  refine exec_t3_refused fun hidle a d hp => ?_
  rcases h with hbusy | hnone | ⟨w, hcmd, hop⟩ | ⟨name, baud, hcmd⟩
  · exact hbusy hidle
  · exact presented_ne_of_no_cmd hnone _ hp
  · exact hop (presented_write_cmdOp hcmd hp)
  · exact nomatch (presented_wideConnect hcmd).symm.trans hp

end Presented

/-! T5 to T9. -/

section Guards
variable {s : State}

theorem exec_t5_refused (h : s.teState ≠ .tx ∨ sendResult s = false) :
    exec .t5 s = .refused (.stepNotEnabled "T5") := by
  rcases h with h | h <;> simp [exec, execT5, h]

theorem exec_t6_refused (h : s.teState ≠ .tx ∨ sendResult s = true) :
    exec .t6 s = .refused (.stepNotEnabled "T6") := by
  rcases h with h | h <;> simp [exec, execT6, h]

theorem exec_t7_refused (h : s.teState = .await → ∀ b, recvResult s ≠ .byte b) :
    exec .t7 s = .refused (.stepNotEnabled "T7") := by
  simp only [exec, execT7]
  split
  · exact absurd ‹_› (h ‹_› _)
  · rfl

/-- In T8 and T9 the hypothesis is word for word the condition of the second arm, which simp finds in the context. -/
theorem exec_t8_refused (h : s.teState = .await → recvResult s ≠ .error) :
    exec .t8 s = .refused (.stepNotEnabled "T8") := by
  simp [exec, execT8]

theorem exec_t9_refused (h : s.teState = .await → recvResult s ≠ .timeout) :
    exec .t9 s = .refused (.stepNotEnabled "T9") := by
  simp [exec, execT9]

/-! The conditions of SA.RECV's results, read backwards (R163). -/

theorem of_recvResult_byte {b : Byte} (h : recvResult s = .byte b) : s.rxErr = false ∧ s.rxbuf ≠ [] := by
  obtain ⟨herr, rest, hbuf, -⟩ := recvResult_byte h
  exact ⟨herr, by simp [hbuf]⟩

theorem of_recvResult_error (h : recvResult s = .error) : s.rxErr = true := by
  rcases recvResult_cases s with ⟨herr, -⟩ | ⟨-, b, rest, -, hr⟩ | ⟨-, -, -, hr⟩ | ⟨-, -, -, hr⟩
  · exact herr
  all_goals exact nomatch h.symm.trans hr

theorem of_recvResult_timeout (h : recvResult s = .timeout) : s.rxErr = false ∧ s.rxbuf = [] ∧ s.timer = 0 := by
  rcases recvResult_cases s with ⟨-, hr⟩ | ⟨-, b, rest, -, hr⟩ | ⟨herr, hbuf, htimer, -⟩ | ⟨-, -, -, hr⟩
  · exact nomatch h.symm.trans hr
  · exact nomatch h.symm.trans hr
  · exact ⟨herr, hbuf, htimer⟩
  · exact nomatch h.symm.trans hr

theorem exec_t7_refused_of_guard (h : s.teState ≠ .await ∨ s.rxErr = true ∨ s.rxbuf = []) :
    exec .t7 s = .refused (.stepNotEnabled "T7") := by
  refine exec_t7_refused fun hawait b hr => ?_
  obtain ⟨herr, hbuf⟩ := of_recvResult_byte hr
  simp [hawait, herr, hbuf] at h

theorem exec_t9_refused_of_guard (h : s.teState ≠ .await ∨ s.rxErr = true ∨ s.rxbuf ≠ [] ∨ 0 < s.timer) :
    exec .t9 s = .refused (.stepNotEnabled "T9") := by
  refine exec_t9_refused fun hawait hr => ?_
  obtain ⟨herr, hbuf, htimer⟩ := of_recvResult_timeout hr
  simp [hawait, herr, hbuf, htimer] at h

/-! An index past its buffer (R18, R19). -/

theorem nextTxByte_of_ge (h : 12 ≤ s.txidx.toNat) : nextTxByte s = none :=
  Vector.getElem?_eq_none h

theorem exec_t5_fault (htx : s.teState = .tx) (hsent : sendResult s = true) (hidx : 12 ≤ s.txidx.toNat) :
    exec .t5 s = .fault .noSuchBufferByte := by
  simp [exec, execT5, htx, hsent, nextTxByte_of_ge hidx]

theorem exec_t6_fault (htx : s.teState = .tx) (hfail : sendResult s = false) (hidx : 12 ≤ s.txidx.toNat) :
    exec .t6 s = .fault .noSuchBufferByte := by
  simp [exec, execT6, htx, hfail, nextTxByte_of_ge hidx]

theorem exec_t7_fault (hawait : s.teState = .await) (herr : s.rxErr = false) (hbuf : s.rxbuf ≠ [])
    (hidx : 9 ≤ s.rxidx.toNat) : exec .t7 s = .fault .noSuchBufferByte := by
  obtain ⟨b, rest, hcons⟩ := List.exists_cons_of_ne_nil hbuf
  rw [exec_t7_of_byte hawait (recvResult_of_byte herr hcons), saRecv_of_byte herr hcons]
  exact dif_neg (Nat.not_lt.mpr hidx)

end Guards

/-- Settles O44: each clause by the lemma of its step. -/
theorem stepsOutsideTheirGuardsStop : Obligations.StepsOutsideTheirGuardsStop := by
  unfold Obligations.StepsOutsideTheirGuardsStop
  intro a d st c s
  refine ⟨exec_t1_refused_of_guard, exec_t2_refused_of_guard, exec_t3_refused_of_guard,
    fun hs => ⟨?_, ?_, ?_⟩, exec_t5_refused, exec_t6_refused, exec_t7_refused_of_guard, fun h => ?_,
    exec_t9_refused_of_guard, fun hs => ⟨?_, ?_, ?_, ?_⟩, fun op hs hop => ⟨fun herr => ?_, fun hok => ?_⟩,
    fun htx hidx => ⟨fun hsent => exec_t5_fault htx hsent hidx, fun hfail => exec_t6_fault htx hfail hidx⟩,
    exec_t7_fault⟩
  · simp [exec, execT4, hs]
  · simp [exec, execReqRead, hs]
  · simp [exec, execReqWrite, hs]
  · refine exec_t8_refused fun hawait hr => ?_
    simp [hawait, of_recvResult_error hr] at h
  · simp [exec, execT10, hs]
  · simp [exec, execT11, hs]
  · simp [exec, execRspRead, hs]
  · simp [exec, execRspWrite, hs]
  · simp [exec, execT10, hs, withLatchedOp_some hop, collected, herr]
  · simp [exec, execT11, hs, withLatchedOp_some hop, collected, hok]

end Sys2Proof.Machine
end

section
/-! PROOFS. The command interface (spec/41_transaction_engine.md R121, spec/20_memory.md R55): what an IDLE engine takes
from it, and that a busy one neither takes nor sees anything. -/

namespace Sys2Proof.Machine

/-! The environment's turns as next states. -/

theorem step_present_eq {s : State} {c : Command} {rest : List Turn} (hturn : s.schedule = .present c :: rest) :
    step s = .next { s with schedule := rest, cmd := some c } := by
  rw [step_present hturn, turnTaken_of_cons hturn, present]

theorem step_withdraw_eq {s : State} {rest : List Turn} (hturn : s.schedule = .withdraw :: rest) :
    step s = .next { s with schedule := rest, cmd := none } := by
  rw [step_withdraw hturn, turnTaken_of_cons hturn, withdraw]

/-- Settles O26: the guard of Tick is that of `tick`. -/
theorem tickCountsOnlyInAwait : Obligations.TickCountsOnlyInAwait := by
  unfold Obligations.TickCountsOnlyInAwait
  intro rest s hturn
  rw [step_tick hturn, turnTaken_of_cons hturn]
  refine ⟨fun hawait htimer => congrArg _ (if_pos ⟨hawait, htimer⟩), fun h => congrArg _ (if_neg ?_)⟩
  rintro ⟨hawait, htimer⟩
  exact h.elim (fun hne => hne hawait) (Nat.ne_of_gt htimer)

/-! Acceptance takes the word. -/

theorem acceptConnect_cmd (dev : DevId) (baud : Word) {s : State} (hidle : s.teState = .idle) :
    (acceptConnect dev baud s).cmd = none := by
  rw [acceptConnect_eq dev baud hidle]

theorem acceptRequest_cmd (op : Opcode) (addr : AddrIn) (data : Word) (s : State) :
    (acceptRequest op addr data s).cmd = none := by
  rcases acceptRequest_cases op addr data s with ⟨-, e⟩ | ⟨-, e⟩ <;> rw [e]
  exact complete_cmd _ _ _

theorem decodeCommand_of_connect {w : CommandWord} (h : cmdOp w = 3) :
    decodeCommand w = .connect (.token (cmdA w)) (cmdD w) :=
  (congrArg decodeCommand (commandWord_of_op h)).symm.trans (decodeCommand_connect _ _)

theorem decodeCommand_of_read {w : CommandWord} (h : cmdOp w = 1) : decodeCommand w = .read (cmdA w) (cmdD w) :=
  (congrArg decodeCommand (commandWord_of_op h)).symm.trans (decodeCommand_read _ _)

theorem decodeCommand_of_write {w : CommandWord} (h : cmdOp w = 2) : decodeCommand w = .write (cmdA w) (cmdD w) :=
  (congrArg decodeCommand (commandWord_of_op h)).symm.trans (decodeCommand_write _ _)

/-- T1 on a presented CONNECT does what the CONNECT does. -/
theorem exec_t1_takes_cmd {s : State} {c : Command} {dev : DevId} {baud : Word} (hidle : s.teState = .idle)
    (hcmd : s.cmd = some c) (hd : decodeInterface c = .connect dev baud) :
    ∃ t, exec .t1 s = .next t ∧ t.cmd = none ∧ exec (decodeInterface c) s = .next t :=
  ⟨_, exec_t1_of_presented hidle ((presented_of_cmd hcmd).trans (congrArg some hd)), acceptConnect_cmd dev baud hidle,
    hd ▸ exec_connect_of_idle dev baud hidle⟩

/-- Settles O30: acceptance by the command's own row, the turns by their equations, and the reset event keeps what is the
environment's. -/
theorem commandInterface : Obligations.CommandInterface := by
  unfold Obligations.CommandInterface
  refine ⟨fun c i s hidle hcmd hi => ?_, fun c rest s => step_present_eq, fun rest s => step_withdraw_eq,
    fun s => ⟨_, exec_reset s, rfl, rfl, rfl, rfl⟩⟩
  rcases hi with ⟨name, baud, rfl, rfl⟩ | ⟨w, rfl, ⟨rfl, hop⟩ | ⟨rfl, hop⟩ | ⟨rfl, hop⟩⟩
  · exact exec_t1_takes_cmd hidle hcmd rfl
  · exact exec_t1_takes_cmd hidle hcmd (decodeCommand_of_connect hop)
  · have hd : decodeInterface (.word w) = .read (cmdA w) (cmdD w) := decodeCommand_of_read hop
    exact ⟨_, exec_t2_of_presented hidle ((presented_of_cmd hcmd).trans (congrArg some hd)), acceptRequest_cmd _ _ _ _,
      hd ▸ exec_read_of_idle _ _ hidle⟩
  · have hd : decodeInterface (.word w) = .write (cmdA w) (cmdD w) := decodeCommand_of_write hop
    exact ⟨_, exec_t3_of_presented hidle ((presented_of_cmd hcmd).trans (congrArg some hd)), acceptRequest_cmd _ _ _ _,
      hd ▸ exec_write_of_idle _ _ hidle⟩

theorem exec_cmdReserved (a : AddrIn) (d : Word) (s : State) : exec (.cmdReserved a d) s = .next s := rfl

theorem turnTaken_of_nil {s : State} (h : s.schedule = []) : turnTaken s = s := by
  have htail : s.schedule.tail = s.schedule := by rw [h]; rfl
  rw [turnTaken, htail]

/-- Settles O31: the reserved word runs as its own row, which changes nothing. -/
theorem reservedCommandChangesNothing : Obligations.ReservedCommandChangesNothing := by
  unfold Obligations.ReservedCommandChangesNothing
  refine ⟨exec_cmdReserved, fun a d s hidle hturn hcmd => ?_⟩
  have hd : decodeInterface (.word (commandWord 0b00 a d)) = .cmdReserved a d := decodeCommand_reserved a d
  rw [step_idle_of_cmd (.inl hturn) hidle hcmd, hd, exec_cmdReserved, turnTaken_of_nil hturn]

/-! A busy engine. -/

theorem busy_of_ne_idle {s : State} (h : s.teState ≠ .idle) : s.busy = true := by
  simp [State.busy, h]

theorem saSend_cmd (b : Byte) (s : State) : (saSend b s).cmd = s.cmd := by
  obtain ⟨_, _, e⟩ := saSend_eq b s; rw [e]
theorem afterSend_cmd (s : State) : (afterSend s).cmd = s.cmd := by
  rcases afterSend_cases s with ⟨-, e⟩ | ⟨-, e⟩ <;> rw [e]
theorem afterStore_cmd (s : State) : (afterStore s).cmd = s.cmd := by
  rcases afterStore_cases s with ⟨-, e⟩ | ⟨-, e⟩ <;> rw [e]
theorem judge_cmd (op : Opcode) (bytes : List Byte) (s : State) : (judge op bytes s).cmd = s.cmd := by
  rcases judge_cases op bytes s with ⟨_, _, -, e⟩ | ⟨_, -, e⟩ | ⟨_, -, e⟩ <;> rw [e]
  · rfl
  · rfl
  · exact attemptFailed_cmd op s

/-- No move of a busy engine touches the interface. -/
theorem EngineMove.cmd_eq {s t : State} (hm : EngineMove s t) (hbusy : s.teState ≠ .idle) : t.cmd = s.cmd := by
  cases hm with
  | wait => rfl
  | connect dev baud hidle => exact absurd hidle hbusy
  | accept op addr data hidle => exact absurd hidle hbusy
  | load => rfl
  | sent b => rw [afterSend_cmd, saSend_cmd]
  | sendFailed op b => exact saSend_cmd b s
  | stored => exact afterStore_cmd _
  | waitFailed op => exact attemptFailed_cmd op s
  | judged op => exact judge_cmd op _ s

/-- Settles O32: the command rows and T1 to T3 look at TE_STATE first, and no busy move takes the word. -/
theorem busyEngineAcceptsNoCommand : Obligations.BusyEngineAcceptsNoCommand := by
  unfold Obligations.BusyEngineAcceptsNoCommand
  refine ⟨fun a x d dev s hbusy => ⟨?_, ?_, ?_, exec_t1_refused_of_guard (.inl hbusy),
    exec_t2_refused_of_guard (.inl hbusy), exec_t3_refused_of_guard (.inl hbusy)⟩,
    fun s t hbusy he hstep => (engine_move he hstep).cmd_eq hbusy⟩
  · simp [exec_read, execRead, busy_of_ne_idle hbusy]
  · simp [exec_write, execWrite, busy_of_ne_idle hbusy]
  · simp [exec, execConnect, busy_of_ne_idle hbusy]

/-! Nor does it see the interface: each operation of a busy engine does the same whatever stands there. -/

/-- The state with another command, or none, at the interface. -/
def withCmd (w : Option Command) (s : State) : State := { s with cmd := w }

section WithCmd
variable (w : Option Command)

theorem saSend_withCmd (b : Byte) (s : State) : saSend b (withCmd w s) = withCmd w (saSend b s) := by
  have hline : lineAnswer (withCmd w s) = lineAnswer s := rfl
  have hopen : (withCmd w s).chOpen = s.chOpen := rfl
  have htake : takeLineAnswer (withCmd w s) = withCmd w (takeLineAnswer s) := by
    rw [takeLineAnswer_eq_tail, takeLineAnswer_eq_tail]; rfl
  rw [saSend, saSend, hopen, hline, htake]
  rw [apply_ite (withCmd w), apply_ite (withCmd w)]
  rfl

theorem afterSend_withCmd (s : State) : afterSend (withCmd w s) = withCmd w (afterSend s) := by
  unfold afterSend
  rw [apply_ite (withCmd w)]
  rfl

theorem afterStore_withCmd (s : State) : afterStore (withCmd w s) = withCmd w (afterStore s) := by
  unfold afterStore
  rw [apply_ite (withCmd w)]
  rfl

theorem attemptFailed_withCmd (op : Opcode) (s : State) :
    attemptFailed op (withCmd w s) = withCmd w (attemptFailed op s) := by
  unfold attemptFailed
  rw [apply_ite (withCmd w)]
  rfl

theorem judge_withCmd (op : Opcode) (bytes : List Byte) (s : State) :
    judge op bytes (withCmd w s) = withCmd w (judge op bytes s) := by
  rw [judge, judge]
  cases dec op bytes with
  | okRead st v | okWrite st => rfl
  | err k => exact attemptFailed_withCmd w op s

end WithCmd

theorem txidx_lt_of_nextTxByte {s : State} {b : Byte} (h : nextTxByte s = some b) :
    ∃ _ : s.txidx.toNat < 12, s.txbuf[s.txidx.toNat] = b := Vector.getElem?_eq_some_iff.mp h

/-- A send that fails has looked at TXBUF too. -/
theorem txidx_lt_of_failed_step {s t : State} (he : engineTurn s) (htx : s.teState = .tx)
    (hfail : sendResult s = false) (hstep : step s = .next t) : s.txidx.toNat < 12 := by
  refine Nat.lt_of_not_le fun hge => ?_
  have hi : enabledStep s = some .t6 := by rw [enabledStep, htx]; exact if_neg (by simp [hfail])
  rw [step_of_enabled he hi, exec_t6_fault (s := turnTaken s) htx hfail hge] at hstep
  cases hstep

/-- Settles O33: each move of a busy engine has the same guard in the changed state, and there the same effect. -/
theorem commandInterfaceCannotDisturbATransaction : Obligations.CommandInterfaceCannotDisturbATransaction := by
  unfold Obligations.CommandInterfaceCannotDisturbATransaction
  intro s t w hbusy he hstep
  have he' : engineTurn (withCmd w s) := he
  change step (withCmd w s) = .next (withCmd w t)
  cases engine_move he hstep with
  | wait hw =>
    obtain ⟨hawait, hr⟩ := hw.resolve_left hbusy
    exact step_await_of_wait he' hawait hr
  | connect dev baud hidle => exact absurd hidle hbusy
  | accept op addr data hidle => exact absurd hidle hbusy
  | load op hprep hop => exact step_prep he' hprep hop
  | sent b htx hr hb =>
    obtain ⟨hidx, rfl⟩ := txidx_lt_of_nextTxByte hb
    rw [← afterSend_withCmd, ← saSend_withCmd]
    exact step_tx_of_sent he' htx hidx hr
  | sendFailed op b htx hr hop =>
    have hidx := txidx_lt_of_failed_step he htx hr hstep
    rw [step_tx_of_failed he htx hidx hr hop] at hstep
    rw [← Host.Outcome.next.inj hstep]
    refine (step_tx_of_failed he' htx hidx hr hop).trans (congrArg _ ?_)
    exact congrArg (complete op Config.eTxFail) (saSend_withCmd w _ (turnTaken s))
  | stored b rest hawait herr hbuf hidx =>
    rw [← afterStore_withCmd]
    exact step_await_of_byte he' hawait hidx herr hbuf
  | waitFailed op hawait hr hop =>
    rw [← attemptFailed_withCmd]
    exact step_await_of_failed he' hawait hr hop
  | judged op hdecode hop =>
    rw [← judge_withCmd]
    exact step_decode he' hdecode hop

end Sys2Proof.Machine
end

section
/-! PROOFS. What a step may change (spec/10_state.md R11, R12, R16, R20, R21, R25, R181): each register only in the moves
that its rule names. -/

namespace Sys2Proof.Machine

/-! The whole next state of the operations that only some registers see, as updates. -/

theorem afterSend_update (s : State) :
    ∃ i ticks te, afterSend s = { s with txidx := i, timer := ticks, teState := te } := by
  rcases afterSend_cases s with ⟨-, e⟩ | ⟨-, e⟩
  · exact ⟨_, _, _, e⟩
  · exact ⟨_, _, _, e⟩

theorem afterStore_update (s : State) : ∃ i te, afterStore s = { s with rxidx := i, teState := te } := by
  rcases afterStore_cases s with ⟨-, e⟩ | ⟨-, e⟩
  · exact ⟨_, _, e⟩
  · exact ⟨_, _, e⟩

theorem attemptFailed_update (op : Opcode) (s : State) : ∃ n te st events,
    attemptFailed op s = { s with attempt := n, teState := te, resStatus := st, trace := events } := by
  rcases attemptFailed_cases op s with ⟨-, e⟩ | ⟨-, e⟩
  · exact ⟨_, _, _, _, e⟩
  · exact ⟨_, _, _, _, e⟩

theorem judge_update (op : Opcode) (bytes : List Byte) (s : State) : ∃ v n te st events,
    judge op bytes s = { s with rdata := v, attempt := n, teState := te, resStatus := st, trace := events } := by
  rcases judge_cases op bytes s with ⟨st, v, -, e⟩ | ⟨st, -, e⟩ | ⟨k, -, e⟩
  · exact ⟨_, _, _, _, _, e⟩
  · exact ⟨_, _, _, _, _, e⟩
  · obtain ⟨n, te, st, events, e'⟩ := attemptFailed_update op s
    exact ⟨_, _, _, _, _, e.trans e'⟩

/-- The registers that a transaction in progress does not write: the request, the channel and its configuration, RES_CONN
and the build parameters. -/
structure SameSettings (s t : State) : Prop where
  reqOp : t.reqOp = s.reqOp
  reqAddr : t.reqAddr = s.reqAddr
  reqData : t.reqData = s.reqData
  chOpen : t.chOpen = s.chOpen
  cfgDev : t.cfgDev = s.cfgDev
  cfgBaud : t.cfgBaud = s.cfgBaud
  resConn : t.resConn = s.resConn
  params : t.params = s.params

theorem SameSettings.refl (s : State) : SameSettings s s := ⟨rfl, rfl, rfl, rfl, rfl, rfl, rfl, rfl⟩

/-- An IDLE engine waits or accepts a command (R121 to R124). -/
theorem EngineMove.idle_cases {s t : State} (hm : EngineMove s t) (hidle : s.teState = .idle) :
    t = s ∨ (∃ dev baud, presented s = some (.connect dev baud) ∧ t = acceptConnect dev baud s) ∨
    (∃ op addr data, t = acceptRequest op addr data s) := by
  cases hm with
  | wait => exact .inl rfl
  | connect dev baud _ hp => exact .inr (.inl ⟨dev, baud, hp, rfl⟩)
  | accept op addr data => exact .inr (.inr ⟨op, addr, data, rfl⟩)
  | load _ h | sent _ h | sendFailed _ _ h | stored _ _ h | waitFailed _ h | judged _ h => exact nomatch hidle.symm.trans h

theorem EngineMove.sameSettings {s t : State} (hm : EngineMove s t) (hbusy : s.teState ≠ .idle) :
    SameSettings s t := by
  cases hm with
  | wait => exact .refl s
  | connect dev baud hidle => exact absurd hidle hbusy
  | accept op addr data hidle => exact absurd hidle hbusy
  | load op => exact ⟨rfl, rfl, rfl, rfl, rfl, rfl, rfl, rfl⟩
  | sent b =>
    obtain ⟨_, _, e⟩ := saSend_eq b s
    obtain ⟨_, _, _, e'⟩ := afterSend_update (saSend b s)
    rw [e', e]
    exact ⟨rfl, rfl, rfl, rfl, rfl, rfl, rfl, rfl⟩
  | sendFailed op b =>
    obtain ⟨_, _, e⟩ := saSend_eq b s
    rw [e]
    exact ⟨rfl, rfl, rfl, rfl, rfl, rfl, rfl, rfl⟩
  | stored b rest _ _ _ hidx =>
    obtain ⟨_, _, e⟩ := afterStore_update { s with rxbuf := rest, rxfrm := s.rxfrm.set s.rxidx.toNat b hidx }
    rw [e]
    exact ⟨rfl, rfl, rfl, rfl, rfl, rfl, rfl, rfl⟩
  | waitFailed op =>
    obtain ⟨_, _, _, _, e⟩ := attemptFailed_update op s
    rw [e]
    exact ⟨rfl, rfl, rfl, rfl, rfl, rfl, rfl, rfl⟩
  | judged op =>
    obtain ⟨_, _, _, _, _, e⟩ := judge_update op (collected s) s
    rw [e]
    exact ⟨rfl, rfl, rfl, rfl, rfl, rfl, rfl, rfl⟩

/-- A step that is no reset event: nothing of the settings changes, or an IDLE engine accepted a command. -/
theorem step_settings {s t : State} (hstep : step s = .next t) (hreset : ¬ resetTurn s) :
    SameSettings s t ∨ s.teState = .idle ∧
      ((∃ dev baud, t = acceptConnect dev baud (turnTaken s)) ∨
        ∃ op addr data, t = acceptRequest op addr data (turnTaken s)) := by
  rcases step_cases hstep hreset with ⟨-, hm⟩ | ⟨buf, ticks, err, w, rfl, -, -⟩
  · by_cases hidle : s.teState = .idle
    · rcases hm.idle_cases hidle with rfl | ⟨dev, baud, -, e⟩ | hacc
      · exact .inl ⟨rfl, rfl, rfl, rfl, rfl, rfl, rfl, rfl⟩
      · exact .inr ⟨hidle, .inl ⟨dev, baud, e⟩⟩
      · exact .inr ⟨hidle, .inr hacc⟩
    · have h := hm.sameSettings hidle
      exact .inl ⟨h.reqOp, h.reqAddr, h.reqData, h.chOpen, h.cfgDev, h.cfgBaud, h.resConn, h.params⟩
  · exact .inl ⟨rfl, rfl, rfl, rfl, rfl, rfl, rfl, rfl⟩

/-- Settles O53: of the moves that change the settings only an acceptance on an open channel writes the request. -/
theorem requestIsImmutable : Obligations.RequestIsImmutable := by
  unfold Obligations.RequestIsImmutable
  intro s t hstep hreset hchanged
  rcases step_settings hstep hreset with h | ⟨hidle, ⟨dev, baud, rfl⟩ | ⟨op, addr, data, rfl⟩⟩
  · simp [h.reqOp, h.reqAddr, h.reqData] at hchanged
  · rw [acceptConnect_eq dev baud (s := turnTaken s) hidle] at hchanged
    simp at hchanged
  · rcases acceptRequest_cases op addr data (turnTaken s) with ⟨-, e⟩ | ⟨-, e⟩
    · rw [e]
      exact ⟨hidle, rfl, rfl⟩
    · simp [e] at hchanged

/-- Settles O54: of the moves that change the settings only a CONNECT writes the channel. -/
theorem channelChangesOnlyByConnect : Obligations.ChannelChangesOnlyByConnect := by
  unfold Obligations.ChannelChangesOnlyByConnect
  intro s t hstep hreset hchanged
  rcases step_settings hstep hreset with h | ⟨hidle, ⟨dev, baud, rfl⟩ | ⟨op, addr, data, rfl⟩⟩
  · simp [h.chOpen, h.cfgDev, h.cfgBaud, h.resConn] at hchanged
  · rw [acceptConnect_eq dev baud (s := turnTaken s) hidle]
    exact ⟨hidle, hidle, rfl, rfl⟩
  · rcases acceptRequest_cases op addr data (turnTaken s) with ⟨-, e⟩ | ⟨-, e⟩ <;> simp [e] at hchanged

/-! ATTEMPT (R16). -/

theorem EngineMove.params_eq {s t : State} (hm : EngineMove s t) : t.params = s.params := by
  by_cases hidle : s.teState = .idle
  · rcases hm.idle_cases hidle with rfl | ⟨dev, baud, -, rfl⟩ | ⟨op, addr, data, rfl⟩
    · rfl
    · rw [acceptConnect_eq dev baud hidle]
    · rcases acceptRequest_cases op addr data s with ⟨-, e⟩ | ⟨-, e⟩ <;> rw [e]
      rfl
  · exact (hm.sameSettings hidle).params

/-- AttemptFailed counts only where it retries (R133). -/
theorem attemptFailed_attempt (op : Opcode) (s : State) : (attemptFailed op s).attempt = s.attempt ∨
    (attemptFailed op s).teState = .prep ∧ (attemptFailed op s).attempt = s.attempt + 1 ∧
      s.attempt ≠ s.params.maxAttempts := by
  rcases attemptFailed_cases op s with ⟨-, e⟩ | ⟨hbelow, e⟩ <;> rw [e]
  · exact .inl rfl
  · exact .inr ⟨rfl, rfl, hbelow⟩

theorem judge_attempt (op : Opcode) (bytes : List Byte) (s : State) : (judge op bytes s).attempt = s.attempt ∨
    (judge op bytes s).teState = .prep ∧ (judge op bytes s).attempt = s.attempt + 1 ∧
      s.attempt ≠ s.params.maxAttempts := by
  rcases judge_cases op bytes s with ⟨_, _, -, e⟩ | ⟨_, -, e⟩ | ⟨_, -, e⟩ <;> rw [e]
  · exact .inl rfl
  · exact .inl rfl
  · exact attemptFailed_attempt op s

theorem EngineMove.attempt_cases {s t : State} (hm : EngineMove s t) : t.attempt = s.attempt ∨ t.teState = .prep ∧
    (s.teState = .idle ∧ t.attempt = 1 ∨
      (s.teState = .await ∨ s.teState = .decode) ∧ t.attempt = s.attempt + 1 ∧ s.attempt ≠ s.params.maxAttempts) := by
  cases hm with
  | wait => exact .inl rfl
  | connect dev baud hidle => rw [acceptConnect_eq dev baud hidle]; exact .inl rfl
  | accept op addr data hidle =>
    rcases acceptRequest_cases op addr data s with ⟨-, e⟩ | ⟨-, e⟩ <;> rw [e]
    · exact .inr ⟨rfl, .inl ⟨hidle, rfl⟩⟩
    · exact .inl rfl
  | load => exact .inl rfl
  | sent b => exact .inl (by rw [afterSend_attempt, saSend_attempt])
  | sendFailed op b => exact .inl (saSend_attempt b s)
  | stored => exact .inl (afterStore_attempt _)
  | waitFailed op hawait =>
    rcases attemptFailed_attempt op s with h | ⟨hprep, hcount⟩
    · exact .inl h
    · exact .inr ⟨hprep, .inr ⟨.inl hawait, hcount⟩⟩
  | judged op hdecode =>
    rcases judge_attempt op (collected s) s with h | ⟨hprep, hcount⟩
    · exact .inl h
    · exact .inr ⟨hprep, .inr ⟨.inr hdecode, hcount⟩⟩

/-- Settles O56: no move writes the parameters, and `attempt_cases` gives the moves that count. -/
theorem attemptsAreCounted : Obligations.AttemptsAreCounted := by
  unfold Obligations.AttemptsAreCounted
  intro s t hstep
  by_cases hreset : resetTurn s
  · obtain ⟨rest, hturn⟩ := hreset
    rw [step_reset hturn] at hstep
    cases hstep
    exact ⟨rfl, fun h => absurd ⟨rest, hturn⟩ h⟩
  · rcases step_cases hstep hreset with ⟨-, hm⟩ | ⟨buf, ticks, err, w, rfl, -, -⟩
    · exact ⟨hm.params_eq, fun _ hchanged => hm.attempt_cases.resolve_left hchanged⟩
    · exact ⟨rfl, fun _ hchanged => absurd rfl hchanged⟩

/-! RES_STATUS (R12, R181). -/

/-- The next state ends a READ or WRITE with a legal status and its Done event, and it emitted nothing else. -/
def CompletesLegally (s t : State) : Prop :=
  legalStatus t.resStatus ∧ t.teState = .idle ∧
    (t.trace = s.trace ++ [.doneRead t.resStatus t.rdata] ∨ t.trace = s.trace ++ [.doneWrite t.resStatus])

theorem completesLegally_complete {s u : State} (op : Opcode) {st : Byte} (hst : legalStatus st)
    (htrace : u.trace = s.trace) : CompletesLegally s (complete op st u) := by
  refine ⟨hst, rfl, ?_⟩
  rw [complete_trace, htrace]
  cases op with
  | read => exact .inl rfl
  | write => exact .inr rfl

theorem legalStatus_of_le {st : Byte} (h : st ≤ 3) : legalStatus st := by
  unfold legalStatus
  revert st; decide

theorem saSend_trace_of_failed (b : Byte) {s : State} (h : sendResult s = false) : (saSend b s).trace = s.trace := by
  obtain ⟨_, _, e⟩ := saSend_eq b s
  rw [e]
  simp [h]

@[simp] theorem saSend_resStatus (b : Byte) (s : State) : (saSend b s).resStatus = s.resStatus := by
  obtain ⟨_, _, e⟩ := saSend_eq b s; rw [e]

theorem attemptFailed_resStatus (op : Opcode) (s : State) :
    (attemptFailed op s).resStatus = s.resStatus ∨ CompletesLegally s (attemptFailed op s) := by
  rcases attemptFailed_cases op s with ⟨-, e⟩ | ⟨-, e⟩ <;> rw [e]
  · exact .inr (completesLegally_complete op (by unfold legalStatus; decide) rfl)
  · exact .inl rfl

theorem EngineMove.resStatus_cases {s t : State} (hm : EngineMove s t) :
    t.resStatus = s.resStatus ∨ CompletesLegally s t := by
  cases hm with
  | wait => exact .inl rfl
  | connect dev baud hidle => rw [acceptConnect_eq dev baud hidle]; exact .inl rfl
  | accept op addr data =>
    rcases acceptRequest_cases op addr data s with ⟨-, e⟩ | ⟨-, e⟩ <;> rw [e]
    · exact .inl rfl
    · exact .inr (completesLegally_complete op (by unfold legalStatus; decide) rfl)
  | load => exact .inl rfl
  | sent b =>
    obtain ⟨_, _, _, e⟩ := afterSend_update (saSend b s)
    exact .inl (by rw [e]; exact saSend_resStatus b s)
  | sendFailed op b _ hr =>
    exact .inr (completesLegally_complete op (by unfold legalStatus; decide) (saSend_trace_of_failed b hr))
  | stored b rest _ _ _ hidx =>
    obtain ⟨_, _, e⟩ := afterStore_update { s with rxbuf := rest, rxfrm := s.rxfrm.set s.rxidx.toNat b hidx }
    exact .inl (by rw [e])
  | waitFailed op => exact attemptFailed_resStatus op s
  | judged op =>
    rcases judge_cases op (collected s) s with ⟨st, v, hdec, e⟩ | ⟨st, hdec, e⟩ | ⟨k, -, e⟩ <;> rw [e]
    · obtain ⟨-, hle⟩ := dec_status_legal (.inr ⟨v, hdec⟩)
      exact .inr (completesLegally_complete .read (legalStatus_of_le hle) rfl)
    · obtain ⟨-, hle⟩ := dec_status_legal (.inl hdec)
      exact .inr (completesLegally_complete .write (legalStatus_of_le hle) rfl)
    · exact attemptFailed_resStatus op s

/-- Settles O50: only a completion writes RES_STATUS, with a transport code or a status that DEC let through. -/
theorem statusIsOneOfSevenCodes : Obligations.StatusIsOneOfSevenCodes := by
  unfold Obligations.StatusIsOneOfSevenCodes
  intro s t hstep hreset hchanged
  rcases step_cases hstep hreset with ⟨-, hm⟩ | ⟨buf, ticks, err, w, rfl, -, -⟩
  · exact hm.resStatus_cases.resolve_left hchanged
  · exact absurd rfl hchanged

/-! RDATA (R12). -/

theorem eq_read_of_dec_okRead {op : Opcode} {bytes : List Byte} {st : Byte} {v : Word}
    (h : dec op bytes = .okRead st v) : op = .read := by
  obtain ⟨-, -, -, -, -, -, hval⟩ := dec_ok (op := op) (s := bytes) (by rw [h]; rfl)
  cases op with
  | read => rfl
  | write => exact nomatch h.symm.trans hval

theorem EngineMove.rdata_cases {s t : State} (hm : EngineMove s t) : t.rdata = s.rdata ∨ s.teState = .decode ∧
    s.reqOp = 0x01 ∧ ∃ st, dec .read (collected s) = .okRead st t.rdata ∧ t.resStatus = st := by
  cases hm with
  | wait => exact .inl rfl
  | connect dev baud hidle => rw [acceptConnect_eq dev baud hidle]; exact .inl rfl
  | accept op addr data =>
    rcases acceptRequest_cases op addr data s with ⟨-, e⟩ | ⟨-, e⟩ <;> rw [e]
    · exact .inl rfl
    · exact .inl rfl
  | load => exact .inl rfl
  | sent b =>
    obtain ⟨_, _, e⟩ := saSend_eq b s
    obtain ⟨_, _, _, e'⟩ := afterSend_update (saSend b s)
    exact .inl (by rw [e', e])
  | sendFailed op b =>
    obtain ⟨_, _, e⟩ := saSend_eq b s
    exact .inl (by rw [complete_rdata, e])
  | stored b rest _ _ _ hidx =>
    obtain ⟨_, _, e⟩ := afterStore_update { s with rxbuf := rest, rxfrm := s.rxfrm.set s.rxidx.toNat b hidx }
    exact .inl (by rw [e])
  | waitFailed op => exact .inl (attemptFailed_rdata op s)
  | judged op hdecode hop =>
    rcases judge_cases op (collected s) s with ⟨st, v, hdec, e⟩ | ⟨st, -, e⟩ | ⟨k, -, e⟩ <;> rw [e]
    · obtain rfl := eq_read_of_dec_okRead hdec
      exact .inr ⟨hdecode, eq_opTag_of_opOfTag hop, st, hdec, rfl⟩
    · exact .inl rfl
    · exact .inl (attemptFailed_rdata op s)

/-- Settles O51: of all moves only the judging of a READ response that decodes writes RDATA. -/
theorem readDataOnlyFromADecodedResponse : Obligations.ReadDataOnlyFromADecodedResponse := by
  unfold Obligations.ReadDataOnlyFromADecodedResponse
  intro s t hstep hreset hchanged
  rcases step_cases hstep hreset with ⟨-, hm⟩ | ⟨buf, ticks, err, w, rfl, -, -⟩
  · exact hm.rdata_cases.resolve_left hchanged
  · exact absurd rfl hchanged

end Sys2Proof.Machine
end

section
/-! PROOFS. The events of a step (spec/41_transaction_engine.md R140, spec/20_memory.md R50): at most one, and a Tx is the
next byte of the latched request's frame. -/

namespace Sys2Proof.Machine

/-- At most one event more; a Tx is that byte and sent in TX, a Flush is of PREP. -/
def EmitsLegally (s t : State) : Prop :=
  t.trace = s.trace ∨ ∃ e, t.trace = s.trace ++ [e] ∧
    (∀ b, e = .tx b → s.teState = .tx ∧ ∃ op, opOfTag s.reqOp = some op ∧
      (enc op s.reqAddr s.reqData)[s.txidx.toNat]? = some b) ∧
    (e = .flush → s.teState = .prep)

theorem emitsLegally_of_done {s t : State} {e : Event} (h : t.trace = s.trace ++ [e]) (htx : ∀ b, e ≠ .tx b)
    (hflush : e ≠ .flush) : EmitsLegally s t :=
  .inr ⟨e, h, fun b hb => absurd hb (htx b), fun hf => absurd hf hflush⟩

theorem emitsLegally_complete {s u : State} (op : Opcode) (st : Byte) (htrace : u.trace = s.trace) :
    EmitsLegally s (complete op st u) := by
  have h : (complete op st u).trace = s.trace ++ [doneEvent op st u] := by rw [complete_trace, htrace]
  cases op with
  | read => exact emitsLegally_of_done h nofun nofun
  | write => exact emitsLegally_of_done h nofun nofun

theorem emitsLegally_attemptFailed (op : Opcode) (s : State) : EmitsLegally s (attemptFailed op s) := by
  rcases attemptFailed_cases op s with ⟨-, e⟩ | ⟨-, e⟩ <;> rw [e]
  · exact emitsLegally_complete op _ rfl
  · exact .inl rfl

/-- In TX the byte at TXIDX is that of the latched request's frame (R29 item 4). -/
theorem Inv.nextTxByte_eq {s : State} (h : Inv s) (htx : s.teState = .tx) :
    ∃ op, opOfTag s.reqOp = some op ∧ nextTxByte s = (enc op s.reqAddr s.reqData)[s.txidx.toNat]? := by
  obtain ⟨op, ⟨-, hop⟩, -, hframe, hidx, -⟩ := h.sending htx
  refine ⟨op, hop, ?_⟩
  rw [← hframe, List.getElem?_take_of_lt hidx, Vector.getElem?_toList, nextTxByte]

theorem EngineMove.emitsLegally {s t : State} (h : Inv s) (hm : EngineMove s t) : EmitsLegally s t := by
  cases hm with
  | wait => exact .inl rfl
  | connect dev baud hidle =>
    rw [acceptConnect_eq dev baud hidle]
    exact emitsLegally_of_done rfl nofun nofun
  | accept op addr data =>
    rcases acceptRequest_cases op addr data s with ⟨-, e⟩ | ⟨-, e⟩ <;> rw [e]
    · exact .inl rfl
    · exact emitsLegally_complete op _ rfl
  | load op hprep => exact .inr ⟨.flush, rfl, nofun, fun _ => hprep⟩
  | sent b htx hr hb =>
    obtain ⟨_, _, _, e⟩ := afterSend_update (saSend b s)
    obtain ⟨op, hop, hbyte⟩ := h.nextTxByte_eq htx
    refine .inr ⟨.tx b, by rw [e, saSend_of_ok b hr], fun c hc => ?_, nofun⟩
    cases hc
    exact ⟨htx, op, hop, hbyte.symm.trans hb⟩
  | sendFailed op b _ hr => exact emitsLegally_complete op _ (saSend_trace_of_failed b hr)
  | stored b rest _ _ _ hidx =>
    obtain ⟨_, _, e⟩ := afterStore_update { s with rxbuf := rest, rxfrm := s.rxfrm.set s.rxidx.toNat b hidx }
    exact .inl (by rw [e])
  | waitFailed op => exact emitsLegally_attemptFailed op s
  | judged op =>
    rcases judge_cases op (collected s) s with ⟨st, v, -, e⟩ | ⟨st, -, e⟩ | ⟨k, -, e⟩ <;> rw [e]
    · exact emitsLegally_complete .read st rfl
    · exact emitsLegally_complete .write st rfl
    · exact emitsLegally_attemptFailed op s

/-- Settles O55: the engine's moves by `EngineMove.emitsLegally`; the environment's turns emit nothing. -/
theorem onlyRequestBytesAreSent : Obligations.OnlyRequestBytesAreSent := by
  unfold Obligations.OnlyRequestBytesAreSent
  intro s t h hstep
  by_cases hreset : resetTurn s
  · obtain ⟨rest, hturn⟩ := hreset
    rw [step_reset hturn] at hstep
    cases hstep
    exact .inl rfl
  · rcases step_cases hstep hreset with ⟨-, hm⟩ | ⟨buf, ticks, err, w, rfl, -, -⟩
    · have hemit := EngineMove.emitsLegally h.turnTaken hm
      exact hemit
    · exact .inl rfl

end Sys2Proof.Machine
end

section
/-! PROOFS. RX_ERR (spec/42_serial_adapter.md R166, spec/10_state.md R23): what sets it and what clears it. -/

namespace Sys2Proof.Machine

/-- SA.FLUSH, SA.OPEN, the instructions that contain one of them, and RESET. -/
def ClearsRxErr (i : Instr) : Prop :=
  i = .saFlush ∨ (∃ dev baud, i = .saOpen dev baud) ∨
    i = .t4 ∨ (∃ a c, i = .reqRead a c) ∨ (∃ a d c, i = .reqWrite a d c) ∨
    i = .t1 ∨ (∃ dev baud, i = .connect dev baud) ∨ i = .reset

theorem afterStore_rxErr (s : State) : (afterStore s).rxErr = s.rxErr := by
  obtain ⟨_, _, e⟩ := afterStore_update s; rw [e]

/-- A guarded meaning that answers next has its guard. -/
theorem next_of_guarded {p : Prop} [Decidable p] {o : Out} {r : Refusal} {t : State}
    (h : (if p then o else .refused r) = .next t) : o = .next t := by
  split at h
  · exact h
  · cases h

theorem next_of_unless_busy {s t u : State} (h : (if s.busy then .refused .commandWhileBusy else .next u : Out) = .next t) :
    u = t := by
  split at h
  · cases h
  · exact Host.Outcome.next.inj h

/-- Every other instruction that answers a next state keeps RX_ERR. -/
theorem exec_rxErr_eq {i : Instr} {s t : State} (h : exec i s = .next t) : t.rxErr = s.rxErr ∨ ClearsRxErr i := by
  cases i with
  | saFlush | saOpen | t4 | reqRead | reqWrite | t1 | connect | reset => simp [ClearsRxErr]
  | rspRead | rspWrite =>
    obtain ⟨op, -, hk⟩ := withLatchedOp_next (next_of_guarded h)
    cases hk
    exact .inl (judge_rxErr _ _ s)
  | read addr x =>
    obtain rfl := next_of_unless_busy h
    exact .inl (acceptRequest_rxErr .read addr 0 s)
  | write addr data =>
    obtain rfl := next_of_unless_busy h
    exact .inl (acceptRequest_rxErr .write addr data s)
  | cmdReserved | crc8 | encRead | encWrite | decRead | decWrite | decReq => cases h; exact .inl rfl
  | enc op a d =>
    cases hop : opOfTag op with
    | none => rw [exec_enc_of_reserved hop] at h; cases h
    | some o => rw [exec_enc_of_op hop] at h; cases h; exact .inl rfl
  | dec op bytes =>
    cases hop : opOfTag op with
    | none => rw [exec_dec_of_reserved hop] at h; cases h
    | some o => rw [exec_dec_of_op hop] at h; cases h; exact .inl rfl
  | saSend b => cases h; exact .inl (saSend_rxErr b s)
  | saRecv => cases h; exact .inl (saRecv_rxErr s)
  | t2 =>
    simp only [exec, execT2] at h
    split at h
    · cases h; exact .inl (acceptRequest_rxErr _ _ _ s)
    · cases h
  | t3 =>
    simp only [exec, execT3] at h
    split at h
    · cases h; exact .inl (acceptRequest_rxErr _ _ _ s)
    · cases h
  | t5 =>
    have hb := next_of_guarded h
    split at hb
    · cases hb; exact .inl ((afterSend_rxErr _).trans (saSend_rxErr _ s))
    · cases hb
  | t6 =>
    have hb := next_of_guarded h
    split at hb
    · obtain ⟨op, -, hk⟩ := withLatchedOp_next hb
      cases hk; exact .inl (saSend_rxErr _ s)
    · cases hb
  | t7 =>
    simp only [exec, execT7, storeByte] at h
    split at h
    · split at h
      · cases h; exact .inl ((afterStore_rxErr _).trans (saRecv_rxErr s))
      · cases h
    · cases h
  | t8 =>
    simp only [exec, execT8] at h
    split at h
    · obtain ⟨op, -, hk⟩ := withLatchedOp_next h
      cases hk; exact .inl (attemptFailed_rxErr op s)
    · cases h
  | t9 =>
    simp only [exec, execT9] at h
    split at h
    · obtain ⟨op, -, hk⟩ := withLatchedOp_next h
      cases hk; exact .inl (attemptFailed_rxErr op s)
    · cases h
  | t10 =>
    obtain ⟨op, -, hk⟩ := withLatchedOp_next (next_of_guarded h)
    have hj := next_of_guarded hk
    cases hj; exact .inl (judge_rxErr _ _ s)
  | t11 =>
    obtain ⟨op, -, hk⟩ := withLatchedOp_next (next_of_guarded h)
    split at hk
    · cases hk
    · cases hk; exact .inl (judge_rxErr _ _ s)

/-- Of the engine's moves T4 and a CONNECT clear it. -/
theorem EngineMove.rxErr_cases {s t : State} (hm : EngineMove s t) : t.rxErr = s.rxErr ∨ s.teState = .prep ∨
    s.teState = .idle ∧ ∃ dev baud, presented s = some (.connect dev baud) := by
  cases hm with
  | wait => exact .inl rfl
  | connect dev baud hidle hp => exact .inr (.inr ⟨hidle, dev, baud, hp⟩)
  | accept op addr data => exact .inl (acceptRequest_rxErr op addr data s)
  | load op hprep => exact .inr (.inl hprep)
  | sent b => exact .inl ((afterSend_rxErr _).trans (saSend_rxErr b s))
  | sendFailed op b => exact .inl (saSend_rxErr b s)
  | stored => exact .inl (afterStore_rxErr _)
  | waitFailed op => exact .inl (attemptFailed_rxErr op s)
  | judged op => exact .inl (judge_rxErr op _ s)

/-- No event of the environment clears it. -/
theorem environment_keeps_rxErr {s t : State} (hstep : step s = .next t) (hengine : ¬ engineTurn s)
    (hreset : ¬ resetTurn s) (herr : s.rxErr = true) : t.rxErr = true := by
  rcases step_turns s with he | ⟨b, e⟩ | e | e | ⟨hr, -⟩ | ⟨w, e⟩ | e
  · exact absurd he hengine
  · rw [e] at hstep
    cases hstep
    rcases lineRx_cases b (turnTaken s) with ⟨-, e'⟩ | ⟨-, e'⟩ <;> rw [e'] <;> exact herr
  · rw [e] at hstep
    cases hstep
    exact (congrArg (· || s.chOpen) herr).trans (Bool.true_or _)
  · rw [e] at hstep
    cases hstep
    rcases tick_cases (turnTaken s) with ⟨-, -, e'⟩ | ⟨-, e'⟩ <;> rw [e'] <;> exact herr
  · exact absurd hr hreset
  · rw [e] at hstep
    cases hstep
    exact herr
  · rw [e] at hstep
    cases hstep
    exact herr

theorem step_lineRxErr_eq {s : State} {rest : List Turn} (hturn : s.schedule = .lineRxErr :: rest) :
    step s = .next { s with schedule := rest, rxErr := s.rxErr || s.chOpen } := by
  rw [step_lineRxErr hturn, turnTaken_of_cons hturn]; rfl

/-- Settles O25: `exec_rxErr_eq` for the instructions, and for a step the moves and turns that keep RX_ERR. -/
theorem receiveFailureIsSticky : Obligations.ReceiveFailureIsSticky := by
  unfold Obligations.ReceiveFailureIsSticky
  refine ⟨fun rest s hturn => ⟨fun hopen => ?_, fun hclosed => ?_⟩, fun i s t hexec herr hclear => ?_,
    fun s t hstep herr hclear => ?_⟩
  · rw [step_lineRxErr_eq hturn, hopen, Bool.or_true]
  · rw [step_lineRxErr_eq hturn, hclosed, Bool.or_false]
  · refine (exec_rxErr_eq hexec).resolve_left fun hkeep => ?_
    rw [herr, hclear] at hkeep
    cases hkeep
  · by_cases hreset : resetTurn s
    · exact .inl hreset
    by_cases hengine : engineTurn s
    · refine .inr ⟨hengine, ?_⟩
      rcases (engine_move hengine hstep).rxErr_cases with hkeep | hprep | ⟨hidle, dev, baud, hp⟩
      · have hkeep' : t.rxErr = s.rxErr := hkeep
        rw [herr, hclear] at hkeep'
        cases hkeep'
      · exact .inl hprep
      · obtain ⟨c, hcmd, hd⟩ := Option.map_eq_some_iff.mp hp
        exact .inr ⟨hidle, c, dev, baud, hcmd, congrArg Except.ok hd⟩
    · have hset := environment_keeps_rxErr hstep hengine hreset herr
      rw [hclear] at hset
      cases hset

end Sys2Proof.Machine
end

section
/-! PROOFS. The step and the instruction it runs: the decoded word of each place (notes/assumptions/9), and the rows of the
transition relation (spec/41_transaction_engine.md R139). -/

namespace Sys2Proof.Machine

/-! The decoded word. -/

/-- The request frame of an operand decodes to its row and to nothing else (R62, R63). -/
theorem decode_encRead (a : Word) :
    decode (.frame (encRead a)) = .ok (.reqRead a (crc8 (reqReadPayload a))) := decode_of_encode rfl

theorem decode_encWrite (a d : Word) :
    decode (.frame (encWrite a d)) = .ok (.reqWrite a d (crc8 (reqWritePayload a d))) := decode_of_encode rfl

/-- A frame of a response's length decodes to a response, and running that judges the frame. -/
theorem exec_decoded_response {bytes : List Byte} {i : Instr} {op : Opcode} {s : State}
    (hlen : bytes.length = explenOf op) (hdec : decode (.frame bytes) = .ok i) (hdecode : s.teState = .decode)
    (hop : opOfTag s.reqOp = some op) : exec i s = .next (judge op bytes s) := by
  have henc := encode_of_decode hdec
  cases i with
  | rspRead st v c =>
    cases henc
    exact exec_rspRead_of_decode hdecode hop st v c
  | rspWrite st c =>
    cases henc
    exact exec_rspWrite_of_decode hdecode hop st c
  | reqRead a c | reqWrite a d c =>
    cases henc
    cases op <;> cases hlen
  | _ => cases henc

theorem Inv.collected_length {s : State} (h : Inv s) (hdecode : s.teState = .decode) :
    ∃ op, opOfTag s.reqOp = some op ∧ (collected s).length = explenOf op := by
  obtain ⟨op, ⟨hexplen, hop⟩, -⟩ := h.decoding hdecode
  refine ⟨op, hop, ?_⟩
  rw [collected, List.length_take, Vector.length_toList, hexplen, Nat.min_eq_left (explenOf_le op)]

/-- Settles O45: in IDLE the step is the command's row; in PREP and DECODE the frame's row does what T4, T10 and T11 do. -/
theorem stepRunsTheDecodedInstruction : Obligations.StepRunsTheDecodedInstruction := by
  unfold Obligations.StepRunsTheDecodedInstruction
  intro s he
  refine ⟨fun c i hidle hcmd hdec => ?_, fun i hprep hop hdec => ?_, fun i hprep hop hdec => ?_,
    fun i h hdecode hdec => ?_⟩
  · cases hdec
    exact step_idle_of_cmd he hidle hcmd
  · rw [decode_encRead] at hdec
    cases hdec
    rw [step_prep he hprep (opOfTag_of_eq (op := .read) hop)]
    exact (exec_reqRead_of_prep _ _ (s := turnTaken s) hprep).symm
  · rw [decode_encWrite] at hdec
    cases hdec
    rw [step_prep he hprep (opOfTag_of_eq (op := .write) hop)]
    exact (exec_reqWrite_of_prep _ _ _ (s := turnTaken s) hprep).symm
  · obtain ⟨op, hop, hlen⟩ := h.collected_length hdecode
    rw [step_decode he hdecode hop]
    exact (exec_decoded_response hlen hdec (s := turnTaken s) hdecode hop).symm

/-! The two ends of T5 and of T7, as whole next states. -/

section TxAwait
variable {s : State} (he : engineTurn s)
include he

theorem step_tx_of_more (htx : s.teState = .tx) (hidx : s.txidx.toNat < 12) (hsent : sendResult s = true)
    (hmore : s.txidx.toNat + 1 ≠ s.txlen.toNat) : step s = .next
      { turnTaken s with
        trace := s.trace ++ [.tx s.txbuf[s.txidx.toNat]], txidx := s.txidx + 1, sendAnswers := s.sendAnswers.tail,
        draws := if s.sendAnswers = [] then s.draws + 1 else s.draws } := by
  rw [step_tx_of_sent he htx hidx hsent, saSend_of_ok _ (s := turnTaken s) hsent]
  exact congrArg _ (afterSend_of_more hmore)

theorem step_tx_of_last (htx : s.teState = .tx) (hidx : s.txidx.toNat < 12) (hsent : sendResult s = true)
    (hlast : s.txidx.toNat + 1 = s.txlen.toNat) : step s = .next
      { turnTaken s with
        trace := s.trace ++ [.tx s.txbuf[s.txidx.toNat]], timer := s.params.respTicks, teState := .await,
        sendAnswers := s.sendAnswers.tail,
        draws := if s.sendAnswers = [] then s.draws + 1 else s.draws } := by
  rw [step_tx_of_sent he htx hidx hsent, saSend_of_ok _ (s := turnTaken s) hsent]
  exact congrArg _ (afterSend_of_last hlast)

theorem step_await_of_more {b : Byte} {rest : List Byte} (hawait : s.teState = .await) (hidx : s.rxidx.toNat < 9)
    (herr : s.rxErr = false) (hbuf : s.rxbuf = b :: rest) (hmore : s.rxidx.toNat + 1 ≠ s.explen.toNat) :
    step s = .next
      { turnTaken s with
        rxbuf := rest, rxfrm := s.rxfrm.set s.rxidx.toNat b hidx, rxidx := s.rxidx + 1 } := by
  rw [step_await_of_byte he hawait hidx herr hbuf]
  exact congrArg _ (afterStore_of_more hmore)

theorem step_await_of_last {b : Byte} {rest : List Byte} (hawait : s.teState = .await) (hidx : s.rxidx.toNat < 9)
    (herr : s.rxErr = false) (hbuf : s.rxbuf = b :: rest) (hlast : s.rxidx.toNat + 1 = s.explen.toNat) :
    step s = .next
      { turnTaken s with
        rxbuf := rest, rxfrm := s.rxfrm.set s.rxidx.toNat b hidx, rxidx := s.explen, teState := .decode } := by
  rw [step_await_of_byte he hawait hidx herr hbuf]
  exact congrArg _ (afterStore_of_last hlast)

end TxAwait

/-! The rows of the transition relation. -/

section Rows
variable {s t : State} (he : engineTurn s) (hstep : step s = .next t)
include hstep

theorem eq_of_step {u : State} (hu : step s = .next u) : t = u := Host.Outcome.next.inj (hstep.symm.trans hu)

include he

theorem row_connect {c : Command} (hidle : s.teState = .idle) (hcmd : s.cmd = some c)
    (hd : ∃ dev baud, decode (.command c) = .ok (.connect dev baud)) : t.teState = .idle := by
  obtain ⟨dev, baud, hd⟩ := hd
  have hd' : decodeInterface c = .connect dev baud := Except.ok.inj hd
  have hs := step_idle_of_cmd he hidle hcmd
  rw [hd', exec_connect_of_idle dev baud (s := turnTaken s) hidle] at hs
  rw [eq_of_step hstep hs]
  rfl

theorem row_accept {w : CommandWord} (hidle : s.teState = .idle) (hcmd : s.cmd = some (.word w))
    (hop : cmdOp w = 1 ∨ cmdOp w = 2) :
    (s.chOpen = false → t.teState = .idle ∧ t.resStatus = 0x10) ∧ (s.chOpen = true → t.teState = .prep) := by
  obtain ⟨op, a, d, ht⟩ : ∃ op a d, t = acceptRequest op a d (turnTaken s) := by
    have hs := step_idle_of_cmd he hidle hcmd
    rcases hop with hop | hop
    · have hd : decodeInterface (.word w) = .read (cmdA w) (cmdD w) := decodeCommand_of_read hop
      rw [hd, exec_read_of_idle _ _ (s := turnTaken s) hidle] at hs
      exact ⟨_, _, _, eq_of_step hstep hs⟩
    · have hd : decodeInterface (.word w) = .write (cmdA w) (cmdD w) := decodeCommand_of_write hop
      rw [hd, exec_write_of_idle _ _ (s := turnTaken s) hidle] at hs
      exact ⟨_, _, _, eq_of_step hstep hs⟩
  refine ⟨fun hclosed => ?_, fun hopen => ?_⟩
  · rw [ht, acceptRequest_of_closed op a d (s := turnTaken s) hidle hclosed]
    exact ⟨hidle, rfl⟩
  · rw [ht, acceptRequest_of_open op a d (s := turnTaken s) hopen]

theorem row_tx (h : Inv s) (htx : s.teState = .tx) :
    (sendResult s = true → s.txidx.toNat + 1 < s.txlen.toNat → t.teState = .tx) ∧
    (sendResult s = true → s.txidx.toNat + 1 = s.txlen.toNat → t.teState = .await) ∧
    (sendResult s = false → t.teState = .idle ∧ t.resStatus = 0x11) := by
  have hidx := h.txidx_lt htx
  obtain ⟨op, hop⟩ := h.request (by rw [htx]; exact nofun)
  refine ⟨fun hsent hmore => ?_, fun hsent hlast => ?_, fun hfail => ?_⟩
  · rw [eq_of_step hstep (step_tx_of_more he htx hidx hsent (Nat.ne_of_lt hmore))]
    exact htx
  · rw [eq_of_step hstep (step_tx_of_last he htx hidx hsent hlast)]
  · rw [eq_of_step hstep (step_tx_of_failed he htx hidx hfail hop)]
    exact ⟨rfl, rfl⟩

omit he hstep in
/-- A failed attempt leads to the next one, or ends with E_NO_RESPONSE (R133). -/
theorem attemptFailed_row (op : Opcode) (s : State) :
    (s.attempt < s.params.maxAttempts → (attemptFailed op s).teState = .prep) ∧
    (s.attempt = s.params.maxAttempts →
      (attemptFailed op s).teState = .idle ∧ (attemptFailed op s).resStatus = 0x12) := by
  refine ⟨fun hbelow => ?_, fun hlimit => ?_⟩
  · rw [attemptFailed_of_below op (Nat.ne_of_lt hbelow)]
  · rw [attemptFailed_at_limit op hlimit]
    exact ⟨rfl, rfl⟩

theorem row_wait_failed (h : Inv s) (hawait : s.teState = .await)
    (hr : recvResult s = .error ∨ recvResult s = .timeout) :
    (s.attempt < s.params.maxAttempts → t.teState = .prep) ∧
    (s.attempt = s.params.maxAttempts → t.teState = .idle ∧ t.resStatus = 0x12) := by
  obtain ⟨op, hop⟩ := h.request (by rw [hawait]; exact nofun)
  rw [eq_of_step hstep (step_await_of_failed he hawait hr hop)]
  exact attemptFailed_row op (turnTaken s)

theorem row_byte (h : Inv s) (hawait : s.teState = .await) (herr : s.rxErr = false) (hbuf : s.rxbuf ≠ []) :
    (s.rxidx.toNat + 1 < s.explen.toNat → t.teState = .await) ∧
    (s.rxidx.toNat + 1 = s.explen.toNat → t.teState = .decode) := by
  obtain ⟨b, rest, hcons⟩ := List.exists_cons_of_ne_nil hbuf
  have hidx := h.rxidx_lt hawait
  refine ⟨fun hmore => ?_, fun hlast => ?_⟩
  · rw [eq_of_step hstep (step_await_of_more he hawait hidx herr hcons (Nat.ne_of_lt hmore))]
    exact hawait
  · rw [eq_of_step hstep (step_await_of_last he hawait hidx herr hcons hlast)]

theorem row_decode {op : Opcode} (hdecode : s.teState = .decode) (hop : opOfTag s.reqOp = some op) :
    (decodedOk (dec op (collected s)) = true → t.teState = .idle ∧ t.resStatus ≤ 0x03) ∧
    (decodedOk (dec op (collected s)) = false →
      (s.attempt < s.params.maxAttempts → t.teState = .prep) ∧
      (s.attempt = s.params.maxAttempts → t.teState = .idle ∧ t.resStatus = 0x12)) := by
  rw [eq_of_step hstep (step_decode he hdecode hop)]
  cases hdec : dec op (collected s) with
  | okRead st v =>
    obtain ⟨-, hle⟩ := dec_status_legal (.inr ⟨v, hdec⟩)
    rw [judge_of_okRead hdec]
    exact ⟨fun _ => ⟨rfl, hle⟩, nofun⟩
  | okWrite st =>
    obtain ⟨-, hle⟩ := dec_status_legal (.inl hdec)
    rw [judge_of_okWrite hdec]
    exact ⟨fun _ => ⟨rfl, hle⟩, nofun⟩
  | err k =>
    rw [judge_of_err hdec]
    exact ⟨nofun, fun _ => attemptFailed_row op (turnTaken s)⟩

end Rows

/-- Settles O46: the next state exists by the invariant, and each clause is the row of its TE_STATE. -/
theorem transitionTable : Obligations.TransitionTable := by
  unfold Obligations.TransitionTable
  intro s h he
  obtain ⟨t, hstep⟩ := engine_next_of_inv h he
  refine ⟨t, hstep, fun hidle hcmd => eq_of_step hstep (step_idle_of_no_cmd he hidle hcmd),
    fun c hidle hcmd => row_connect he hstep hidle hcmd, fun w hidle hcmd => row_accept he hstep hidle hcmd,
    fun hprep => ?_, row_tx he hstep h, fun hawait => ?_, fun hdecode op hop => row_decode he hstep hdecode hop⟩
  · obtain ⟨op, hop⟩ := h.request (by rw [hprep]; exact nofun)
    rw [eq_of_step hstep (step_prep he hprep hop)]
    rfl
  · have hfailed := row_wait_failed he hstep h hawait
    have herror (herr : s.rxErr = true) := hfailed (.inl (recvResult_of_rxErr herr))
    have htimeout (herr : s.rxErr = false) (hbuf : s.rxbuf = []) (htimer : s.timer = 0) :=
      hfailed (.inr (recvResult_of_timeout herr hbuf htimer))
    have hbyte := row_byte he hstep h hawait
    exact ⟨fun herr => (herror herr).1, fun herr => (herror herr).2,
      fun herr hbuf => (hbyte herr hbuf).1, fun herr hbuf => (hbyte herr hbuf).2,
      fun herr hbuf htimer => (htimeout herr hbuf htimer).1, fun herr hbuf htimer => (htimeout herr hbuf htimer).2,
      fun herr hbuf htimer => eq_of_step hstep
        (step_await_of_wait he hawait (recvResult_of_wait herr hbuf htimer))⟩

end Sys2Proof.Machine
end

section
/-! PROOFS. Runs of many steps (spec/41_transaction_engine.md R135, R136, R138, spec/70_reset_and_hazards.md R235): the
phases of an attempt, each as one run with its end state. -/

namespace Sys2Proof.Machine

theorem runSteps_cons {n : Nat} {s t : State} (h : step s = .next t) : runSteps (n + 1) s = runSteps n t := by
  rw [runSteps, h]

theorem runSteps_one {s t : State} (h : step s = .next t) : runSteps 1 s = .next t := runSteps_cons h

theorem runSteps_append {m n : Nat} {s t u : State} (hm : runSteps m s = .next t) (hn : runSteps n t = .next u) :
    runSteps (m + n) s = .next u := by
  induction m generalizing s with
  | zero =>
    cases hm
    rwa [Nat.zero_add]
  | succ m ih =>
    rw [Nat.succ_add]
    cases hs : step s with
    | next v =>
      rw [runSteps_cons hs] at hm ⊢
      exact ih hm
    | fault f => rw [runSteps, hs] at hm; cases hm
    | refused r => rw [runSteps, hs] at hm; cases hm

theorem engineTurn_of_cons {s : State} {rest : List Turn} (h : s.schedule = .engine :: rest) : engineTurn s :=
  .inr ⟨rest, h⟩

/-! Sending: each turn takes an answer and puts the next byte of TXBUF on the line (R126). -/

theorem sendResult_of_listed {s : State} {rest : List Bool} (hopen : s.chOpen = true)
    (hanswers : s.sendAnswers = true :: rest) : sendResult s = true := by
  rw [sendResult_of_open hopen, lineAnswer_of_cons hanswers]

section Listed
variable {s : State} {turns : List Turn} {answers : List Bool} (hturn : s.schedule = .engine :: turns)
  (hanswers : s.sendAnswers = true :: answers) (hopen : s.chOpen = true) (htx : s.teState = .tx)
  (hidx : s.txidx.toNat < 12)
include hturn hanswers hopen htx

theorem step_send_more (hmore : s.txidx.toNat + 1 ≠ s.txlen.toNat) : step s = .next
    { s with schedule := turns, sendAnswers := answers, txidx := s.txidx + 1,
             trace := s.trace ++ [.tx s.txbuf[s.txidx.toNat]] } := by
  rw [step_tx_of_more (engineTurn_of_cons hturn) htx hidx (sendResult_of_listed hopen hanswers) hmore,
    turnTaken_of_cons hturn, hanswers, if_neg (List.cons_ne_nil _ _), List.tail_cons]

theorem step_send_last (hlast : s.txidx.toNat + 1 = s.txlen.toNat) : step s = .next
    { s with schedule := turns, sendAnswers := answers, timer := s.params.respTicks, teState := .await,
             trace := s.trace ++ [.tx s.txbuf[s.txidx.toNat]] } := by
  rw [step_tx_of_last (engineTurn_of_cons hturn) htx hidx (sendResult_of_listed hopen hanswers) hlast,
    turnTaken_of_cons hturn, hanswers, if_neg (List.cons_ne_nil _ _), List.tail_cons]

end Listed

/-- The Tx events of `n` bytes of TXBUF from index `i` on. -/
def txEvents (buf : Vector Byte 12) (i n : Nat) : List Event := ((buf.toList.drop i).take n).map .tx

theorem txEvents_succ (buf : Vector Byte 12) {i : Nat} (hi : i < 12) (n : Nat) :
    txEvents buf i (n + 1) = .tx buf[i] :: txEvents buf (i + 1) n := by
  have hlen : i < buf.toList.length := by rwa [Vector.length_toList]
  rw [txEvents, List.drop_eq_getElem_cons hlen, List.take_succ_cons, List.map_cons, Vector.getElem_toList, txEvents]

/-- The rest of the frame goes out and the deadline starts; TXIDX stays on the last byte. -/
theorem runSteps_send {n : Nat} {later : List Turn} {rest : List Bool} {s : State} (htx : s.teState = .tx)
    (hopen : s.chOpen = true) (hcount : s.txidx.toNat + (n + 1) = s.txlen.toNat) (h12 : s.txlen.toNat ≤ 12)
    (hturns : s.schedule = List.replicate (n + 1) .engine ++ later)
    (hanswers : s.sendAnswers = List.replicate (n + 1) true ++ rest) :
    ∃ i, runSteps (n + 1) s = .next
      { s with schedule := later, sendAnswers := rest, txidx := i, timer := s.params.respTicks, teState := .await,
               trace := s.trace ++ txEvents s.txbuf s.txidx.toNat (n + 1) } := by
  have hidx : s.txidx.toNat < 12 := by omega
  induction n generalizing s with
  | zero =>
    refine ⟨s.txidx, (runSteps_one (step_send_last hturns hanswers hopen htx hidx hcount)).trans ?_⟩
    rw [txEvents_succ _ hidx]
    rfl
  | succ n ih =>
    have hnext : (s.txidx + 1).toNat = s.txidx.toNat + 1 := toNat_add_one hidx (by omega)
    have hstep := step_send_more hturns hanswers hopen htx hidx (by omega)
    obtain ⟨i, hrun⟩ := ih
      (s := { s with
        schedule := List.replicate (n + 1) .engine ++ later, sendAnswers := List.replicate (n + 1) true ++ rest
        txidx := s.txidx + 1, trace := s.trace ++ [.tx s.txbuf[s.txidx.toNat]] })
      htx hopen (by dsimp only; omega) h12 rfl rfl (by dsimp only; omega)
    refine ⟨i, (runSteps_cons hstep).trans (hrun.trans ?_)⟩
    rw [txEvents_succ _ hidx]
    dsimp only
    rw [hnext, List.append_assoc, List.singleton_append]

/-- The state of an attempt once its frame is on the line: loaded as T4 does, AWAIT, the deadline started. -/
def transmitted (op : Opcode) (i : BitVec 4) (answers : List Bool) (turns : List Turn) (s : State) : State :=
  { s with
    txlen := BitVec.ofNat 4 (enc op s.reqAddr s.reqData).length
    txbuf := writeFrame s.txbuf (enc op s.reqAddr s.reqData)
    explen := BitVec.ofNat 4 (explenOf op)
    txidx := i
    rxidx := 0
    rxbuf := []
    rxErr := false
    timer := s.params.respTicks
    teState := .await
    sendAnswers := answers
    schedule := turns
    trace := s.trace ++ frameEvents (enc op s.reqAddr s.reqData) }

theorem txlenOf_pos (op : Opcode) : 0 < txlenOf op := by cases op <;> decide

theorem loadRequest_txlen_toNat (op : Opcode) (a d : Word) (s : State) :
    (loadRequest op (enc op a d) s).txlen.toNat = txlenOf op := by cases op <;> rfl

/-- The Tx events of a frame just loaded are its bytes. -/
theorem txEvents_loadRequest (op : Opcode) (a d : Word) (s : State) :
    txEvents (loadRequest op (enc op a d) s).txbuf 0 (txlenOf op) = (enc op a d).map .tx := by
  have hframe := writeFrame_take s.txbuf (f := enc op a d) (by rw [enc_length]; exact txlenOf_le op)
  rw [enc_length] at hframe
  rw [txEvents, List.drop_zero, loadRequest_txbuf, hframe]

/-- From PREP: T4 and one send for each byte (R125, R126). -/
theorem runSteps_transmit {op : Opcode} {later : List Turn} {rest : List Bool} {s : State} (hprep : s.teState = .prep)
    (hop : opOfTag s.reqOp = some op) (hopen : s.chOpen = true)
    (hturns : s.schedule = List.replicate (txlenOf op + 1) .engine ++ later)
    (hanswers : s.sendAnswers = List.replicate (txlenOf op) true ++ rest) :
    ∃ i, runSteps (txlenOf op + 1) s = .next (transmitted op i rest later s) := by
  have hstep := step_prep (engineTurn_of_cons hturns) hprep hop
  rw [turnTaken_of_cons hturns] at hstep
  have hlen := loadRequest_txlen_toNat op s.reqAddr s.reqData s
  have hevents := txEvents_loadRequest op s.reqAddr s.reqData s
  have hmax := txlenOf_le op
  obtain ⟨n, hn⟩ := Nat.exists_eq_succ_of_ne_zero (Nat.ne_of_gt (txlenOf_pos op))
  rw [hn] at hlen hevents hanswers hstep hmax ⊢
  obtain ⟨i, hrun⟩ := runSteps_send (n := n) (later := later) (rest := rest)
    (s := loadRequest op (enc op s.reqAddr s.reqData)
      { s with schedule := List.replicate n.succ .engine ++ later })
    rfl hopen ((Nat.zero_add _).trans hlen.symm) (hlen ▸ hmax) rfl hanswers
  have htrace : (s.trace ++ [.flush]) ++
      txEvents (loadRequest op (enc op s.reqAddr s.reqData) s).txbuf 0 n.succ =
      s.trace ++ frameEvents (enc op s.reqAddr s.reqData) := by
    rw [hevents, List.append_assoc]; rfl
  exact ⟨i, (runSteps_cons hstep).trans (hrun.trans
    (congrArg (fun events => Host.Outcome.next { transmitted op i rest later s with trace := events }) htrace))⟩

/-! Waiting: the ticks run out (R196), and the attempt fails (R130). -/

theorem step_tick_counts {s : State} {turns : List Turn} (hturn : s.schedule = .tick :: turns)
    (hawait : s.teState = .await) (htimer : 0 < s.timer) :
    step s = .next { s with schedule := turns, timer := s.timer - 1 } := by
  rw [step_tick hturn, turnTaken_of_cons hturn]
  exact congrArg _ (if_pos ⟨hawait, htimer⟩)

theorem runSteps_ticks {n : Nat} {later : List Turn} {s : State} (hawait : s.teState = .await) (htimer : s.timer = n)
    (hturns : s.schedule = List.replicate n .tick ++ later) :
    runSteps n s = .next { s with schedule := later, timer := 0 } := by
  induction n generalizing s with
  | zero =>
    obtain rfl : s.schedule = later := hturns
    rw [runSteps, ← htimer]
  | succ n ih =>
    have hstep := step_tick_counts hturns hawait (by omega)
    rw [runSteps_cons hstep]
    exact ih hawait (by dsimp only; omega) rfl

/-- The state of an attempt whose deadline has passed with nothing received. -/
def timedOut (op : Opcode) (i : BitVec 4) (answers : List Bool) (turns : List Turn) (s : State) : State :=
  { transmitted op i answers turns s with timer := 0 }

@[simp] theorem timedOut_attempt (op : Opcode) (i : BitVec 4) (answers : List Bool) (turns : List Turn) (s : State) :
    (timedOut op i answers turns s).attempt = s.attempt := rfl
@[simp] theorem timedOut_chOpen (op : Opcode) (i : BitVec 4) (answers : List Bool) (turns : List Turn) (s : State) :
    (timedOut op i answers turns s).chOpen = s.chOpen := rfl
@[simp] theorem timedOut_rdata (op : Opcode) (i : BitVec 4) (answers : List Bool) (turns : List Turn) (s : State) :
    (timedOut op i answers turns s).rdata = s.rdata := rfl
@[simp] theorem timedOut_sendAnswers (op : Opcode) (i : BitVec 4) (answers : List Bool) (turns : List Turn) (s : State) :
    (timedOut op i answers turns s).sendAnswers = answers := rfl
@[simp] theorem timedOut_schedule (op : Opcode) (i : BitVec 4) (answers : List Bool) (turns : List Turn) (s : State) :
    (timedOut op i answers turns s).schedule = turns := rfl
@[simp] theorem timedOut_trace (op : Opcode) (i : BitVec 4) (answers : List Bool) (turns : List Turn) (s : State) :
    (timedOut op i answers turns s).trace = s.trace ++ frameEvents (enc op s.reqAddr s.reqData) := rfl

theorem doneEvent_congr (op : Opcode) (st : Byte) {s t : State} (h : t.rdata = s.rdata) :
    doneEvent op st t = doneEvent op st s := by
  cases op with
  | read => rw [doneEvent, doneEvent, h]
  | write => rfl

/-- One attempt on a silent line, from PREP to AttemptFailed (R235). -/
theorem runSteps_silentAttempt {op : Opcode} {later : List Turn} {rest : List Bool} {s : State}
    (hprep : s.teState = .prep) (hop : opOfTag s.reqOp = some op) (hopen : s.chOpen = true)
    (hturns : s.schedule = silentAttempt op s.params.respTicks ++ later)
    (hanswers : s.sendAnswers = List.replicate (txlenOf op) true ++ rest) :
    ∃ i, runSteps (txlenOf op + 2 + s.params.respTicks) s =
      .next (attemptFailed op (timedOut op i rest later s)) := by
  have hturns' : s.schedule = List.replicate (txlenOf op + 1) .engine ++
      (List.replicate s.params.respTicks .tick ++ .engine :: later) := by
    rw [hturns, silentAttempt, List.append_assoc, List.append_assoc]; rfl
  obtain ⟨i, hsend⟩ := runSteps_transmit hprep hop hopen hturns' hanswers
  have hwait := runSteps_ticks (n := s.params.respTicks) (later := .engine :: later)
    (s := transmitted op i rest (List.replicate s.params.respTicks .tick ++ .engine :: later) s) rfl rfl rfl
  have hfail := step_await_of_failed (s := timedOut op i rest (.engine :: later) s) (engineTurn_of_cons rfl) rfl
    (.inr (recvResult_of_timeout rfl rfl rfl)) hop
  refine ⟨i, ?_⟩
  have hcount : txlenOf op + 2 + s.params.respTicks = txlenOf op + 1 + (s.params.respTicks + 1) := by omega
  rw [hcount]
  exact runSteps_append hsend (runSteps_append hwait (runSteps_one hfail))

/-- What a silent attempt below the limit leaves for the next one. -/
structure SilentRetry (op : Opcode) (rest : List Bool) (later : List Turn) (s t : State) : Prop where
  teState : t.teState = .prep
  reqOp : t.reqOp = s.reqOp
  reqAddr : t.reqAddr = s.reqAddr
  reqData : t.reqData = s.reqData
  rdata : t.rdata = s.rdata
  chOpen : t.chOpen = s.chOpen
  params : t.params = s.params
  attempt : t.attempt = s.attempt + 1
  sendAnswers : t.sendAnswers = rest
  schedule : t.schedule = later
  trace : t.trace = s.trace ++ frameEvents (enc op s.reqAddr s.reqData)

theorem silentRetry_of_below {op : Opcode} (i : BitVec 4) (rest : List Bool) (later : List Turn) {s : State}
    (hbelow : s.attempt ≠ s.params.maxAttempts) :
    SilentRetry op rest later s (attemptFailed op (timedOut op i rest later s)) := by
  rw [attemptFailed_of_below op (s := timedOut op i rest later s) hbelow]
  exact ⟨rfl, rfl, rfl, rfl, rfl, rfl, rfl, rfl, rfl, rfl, rfl⟩

/-- What `m` silent attempts, the last of them at the limit, leave (R138, third outcome). -/
structure SilentEnd (op : Opcode) (m : Nat) (rest : List Bool) (later : List Turn) (s t : State) : Prop where
  teState : t.teState = .idle
  resStatus : t.resStatus = 0x12
  rdata : t.rdata = s.rdata
  attempt : t.attempt = s.params.maxAttempts
  chOpen : t.chOpen = s.chOpen
  sendAnswers : t.sendAnswers = rest
  schedule : t.schedule = later
  trace : t.trace = s.trace ++ framesEvents (enc op s.reqAddr s.reqData) m ++ [doneEvent op 0x12 s]

theorem silentEnd_at_limit {op : Opcode} (i : BitVec 4) (rest : List Bool) (later : List Turn) {s : State}
    (hlimit : s.attempt = s.params.maxAttempts) :
    SilentEnd op 1 rest later s (attemptFailed op (timedOut op i rest later s)) := by
  rw [attemptFailed_at_limit op (s := timedOut op i rest later s) hlimit]
  constructor
  · exact complete_teState op _ _
  · exact complete_resStatus op _ _
  · rw [complete_rdata, timedOut_rdata]
  · rw [complete_attempt, timedOut_attempt, hlimit]
  · rw [complete_chOpen, timedOut_chOpen]
  · rw [complete_sendAnswers, timedOut_sendAnswers]
  · rw [complete_schedule, timedOut_schedule]
  · rw [complete_trace, timedOut_trace, doneEvent_congr op _ (timedOut_rdata op i rest later s), framesEvents,
      framesEvents, List.append_nil]

/-- One attempt more in front. -/
theorem SilentEnd.of_retry {op : Opcode} {m : Nat} {answers rest : List Bool} {turns later : List Turn} {s u t : State}
    (hretry : SilentRetry op answers turns s u) (hend : SilentEnd op m rest later u t) :
    SilentEnd op (m + 1) rest later s t := by
  refine ⟨hend.teState, hend.resStatus, hend.rdata.trans hretry.rdata, hend.attempt.trans (by rw [hretry.params]),
    hend.chOpen.trans hretry.chOpen, hend.sendAnswers, hend.schedule, ?_⟩
  rw [hend.trace, hretry.trace, hretry.reqAddr, hretry.reqData, doneEvent_congr op _ hretry.rdata, framesEvents,
    ← List.append_assoc]

theorem runSteps_silentAttempts {op : Opcode} {n : Nat} {rest : List Bool} {later : List Turn} {s : State}
    (hprep : s.teState = .prep) (hop : opOfTag s.reqOp = some op) (hopen : s.chOpen = true)
    (hcount : n + s.attempt = s.params.maxAttempts)
    (hanswers : s.sendAnswers = List.replicate ((n + 1) * txlenOf op) true ++ rest)
    (hturns : s.schedule = silentAttempts op s.params.respTicks (n + 1) ++ later) :
    ∃ t, runSteps ((n + 1) * (txlenOf op + 2 + s.params.respTicks)) s = .next t ∧
      SilentEnd op (n + 1) rest later s t := by
  induction n generalizing s with
  | zero =>
    obtain ⟨i, hrun⟩ := runSteps_silentAttempt (later := later) (rest := rest) hprep hop hopen
      (by rw [hturns, silentAttempts, silentAttempts, List.append_nil]) (by rw [hanswers, Nat.one_mul])
    rw [Nat.one_mul]
    exact ⟨_, hrun, silentEnd_at_limit i rest later (by omega)⟩
  | succ n ih =>
    have hsplit : List.replicate ((n + 1 + 1) * txlenOf op) true ++ rest =
        List.replicate (txlenOf op) true ++ (List.replicate ((n + 1) * txlenOf op) true ++ rest) := by
      rw [Nat.succ_mul (n + 1), Nat.add_comm, ← List.replicate_append_replicate, List.append_assoc]
    obtain ⟨i, hrun⟩ := runSteps_silentAttempt hprep hop hopen
      (by rw [hturns, silentAttempts, List.append_assoc]) (hanswers.trans hsplit)
    have hretry := silentRetry_of_below (op := op) i (List.replicate ((n + 1) * txlenOf op) true ++ rest)
      (silentAttempts op s.params.respTicks (n + 1) ++ later) (s := s) (by omega)
    obtain ⟨t, hrest, hend⟩ := ih hretry.teState (hretry.reqOp ▸ hop) (hretry.chOpen.trans hopen)
      (by rw [hretry.attempt, hretry.params, ← hcount]; omega) hretry.sendAnswers
      (by rw [hretry.schedule, hretry.params])
    rw [hretry.params] at hrest
    refine ⟨t, ?_, hend.of_retry hretry⟩
    rw [Nat.succ_mul (n + 1), Nat.add_comm]
    exact runSteps_append hrun hrest

/-- Settles O58: an induction on the attempts left, each a run that ends in AttemptFailed. -/
theorem silentLineExhaustsTheAttempts : Obligations.SilentLineExhaustsTheAttempts := by
  unfold Obligations.SilentLineExhaustsTheAttempts
  intro op m rest later s _ hprep hop hopen _ hcount hm hanswers hturns
  obtain ⟨n, rfl⟩ := Nat.exists_eq_succ_of_ne_zero (Nat.ne_of_gt hm)
  obtain ⟨t, hrun, h⟩ := runSteps_silentAttempts hprep hop hopen (by omega) hanswers hturns
  exact ⟨t, hrun, h.teState, h.resStatus, h.rdata, h.attempt, h.chOpen.trans hopen, h.sendAnswers, h.schedule,
    h.trace⟩

end Sys2Proof.Machine
end

section
/-! PROOFS. An answered transaction (spec/41_transaction_engine.md R135, R136): the request goes out, the response comes in
and is collected, DEC accepts it. -/

namespace Sys2Proof.Machine

/-! Receiving: an open channel takes every byte its buffer has room for (R165). -/

theorem runSteps_receive {bytes : List Byte} {later : List Turn} {s : State} (hopen : s.chOpen = true)
    (hroom : ∀ d, s.params.rxDepth = some d → s.rxbuf.length + bytes.length ≤ d)
    (hturns : s.schedule = bytes.map .lineRx ++ later) :
    runSteps bytes.length s = .next { s with schedule := later, rxbuf := s.rxbuf ++ bytes } := by
  induction bytes generalizing s with
  | nil =>
    obtain rfl : s.schedule = later := hturns
    rw [List.append_nil]
    rfl
  | cons b bytes ih =>
    have hlength : (b :: bytes).length = bytes.length + 1 := rfl
    have haccepts : rxAccepts s = true := (rxAccepts_iff s).mpr ⟨hopen, fun d hd => by
      have := hroom d hd
      omega⟩
    have hstep := step_lineRx_of_accepts (rest := bytes.map .lineRx ++ later) hturns haccepts
    have hrest := ih (s := { s with schedule := bytes.map .lineRx ++ later, rxbuf := s.rxbuf ++ [b] }) hopen
      (fun d hd => by
        have := hroom d hd
        rw [List.length_append, List.length_singleton]
        omega) rfl
    rw [hlength, runSteps_cons hstep, hrest, List.append_assoc, List.singleton_append]

/-- A legal receive buffer holds a whole response (R5). -/
theorem le_rxDepth_of_valid {p : Config.Params} (hvalid : p.valid) {n d : Nat} (hn : n ≤ 9) (hd : p.rxDepth = some d) :
    n ≤ d := by
  obtain ⟨-, -, hdepth⟩ := hvalid
  rw [hd, Option.getD_some] at hdepth
  exact Nat.le_trans hn hdepth

/-! Collecting: T7 moves one byte a turn from RXBUF to RXFRM (R128). -/

theorem toList_set_take {n : Nat} (v : Vector Byte n) {i : Nat} (hi : i < n) (b : Byte) :
    (v.set i b hi).toList.take (i + 1) = v.toList.take i ++ [b] := by
  have hlen : i < (v.toList.set i b).length := by rwa [List.length_set, Vector.length_toList]
  rw [Vector.toList_set, ← List.take_append_getElem hlen, List.getElem_set_self, List.take_set_of_le (Nat.le_refl i)]

theorem runSteps_collect {b : Byte} {bytes : List Byte} {later : List Turn} {s : State} (hawait : s.teState = .await)
    (herr : s.rxErr = false) (hbuf : s.rxbuf = b :: bytes)
    (hcount : s.rxidx.toNat + (bytes.length + 1) = s.explen.toNat) (h9 : s.explen.toNat ≤ 9)
    (hturns : s.schedule = List.replicate (bytes.length + 1) .engine ++ later) :
    ∃ frm, frm.toList.take s.explen.toNat = s.rxfrm.toList.take s.rxidx.toNat ++ b :: bytes ∧
      runSteps (bytes.length + 1) s = .next
        { s with schedule := later, rxbuf := [], rxidx := s.explen, rxfrm := frm, teState := .decode } := by
  have hidx : s.rxidx.toNat < 9 := by omega
  induction bytes generalizing b s with
  | nil =>
    have hstep := step_await_of_last (engineTurn_of_cons hturns) hawait hidx herr hbuf hcount
    rw [turnTaken_of_cons hturns] at hstep
    refine ⟨_, ?_, runSteps_one hstep⟩
    rw [← hcount]
    exact toList_set_take s.rxfrm hidx b
  | cons c bytes ih =>
    rw [List.length_cons] at hcount hturns ⊢
    have hstep := step_await_of_more (engineTurn_of_cons hturns) hawait hidx herr hbuf (by omega)
    rw [turnTaken_of_cons hturns] at hstep
    have hnext : (s.rxidx + 1).toNat = s.rxidx.toNat + 1 := toNat_add_one hidx (by omega)
    obtain ⟨frm, hfrm, hrun⟩ := ih
      (s := { s with
        schedule := List.replicate (bytes.length + 1) .engine ++ later, rxbuf := c :: bytes
        rxfrm := s.rxfrm.set s.rxidx.toNat b hidx, rxidx := s.rxidx + 1 })
      hawait herr rfl (by dsimp only; omega) h9 rfl (by dsimp only; omega)
    refine ⟨frm, hfrm.trans ?_, (runSteps_cons hstep).trans hrun⟩
    dsimp only
    rw [hnext, toList_set_take, List.append_assoc, List.singleton_append]

/-- What an attempt answered in full leaves before its response is judged: the request's frame on the line, and the
caller's registers as they were. -/
structure AnswerCollected (op : Opcode) (rest : List Bool) (later : List Turn) (s t : State) : Prop where
  rdata : t.rdata = s.rdata
  cmd : t.cmd = s.cmd
  rxbuf : t.rxbuf = []
  sendAnswers : t.sendAnswers = rest
  schedule : t.schedule = later
  trace : t.trace = s.trace ++ frameEvents (enc op s.reqAddr s.reqData)

theorem explenOf_toNat (op : Opcode) : (BitVec.ofNat 4 (explenOf op)).toNat = explenOf op := by cases op <;> rfl

/-- The state of an attempt once its response stands in RXFRM: DECODE, everything else as after the transmission. -/
def responseCollected (op : Opcode) (i : BitVec 4) (answers : List Bool) (turns : List Turn) (frm : Vector Byte 9)
    (s : State) : State :=
  { transmitted op i answers turns s with
    rxidx := BitVec.ofNat 4 (explenOf op)
    rxfrm := frm
    teState := .decode }

/-- From PREP with the response's bytes arriving after the request: T4, the sends, the bytes, T7 for each, T10. -/
theorem runSteps_answeredAttempt {op : Opcode} {response : List Byte} {rest : List Bool} {later : List Turn} {s : State}
    (hvalid : s.params.valid) (hprep : s.teState = .prep) (hop : opOfTag s.reqOp = some op) (hopen : s.chOpen = true)
    (hlen : response.length = explenOf op) (hanswers : s.sendAnswers = List.replicate (txlenOf op) true ++ rest)
    (hturns : s.schedule = answeredAttempt op response ++ later) :
    ∃ t, runSteps (txlenOf op + 1 + (explenOf op + (explenOf op + 1))) s = .next (judge op response t) ∧
      AnswerCollected op rest later s t := by
  obtain ⟨b, bytes, rfl⟩ := List.exists_cons_of_length_pos (hlen ▸ explenOf_pos op)
  have hmax := explenOf_le op
  have hturns' : s.schedule = List.replicate (txlenOf op + 1) .engine ++ ((b :: bytes).map .lineRx ++
      (List.replicate (bytes.length + 1) .engine ++ .engine :: later)) := by
    rw [hturns, answeredAttempt, List.replicate_succ' (n := (b :: bytes).length)]
    simp only [List.append_assoc, List.singleton_append, List.length_cons]
  obtain ⟨i, hsend⟩ := runSteps_transmit hprep hop hopen hturns' hanswers
  have hreceive := runSteps_receive (bytes := b :: bytes)
    (later := List.replicate (bytes.length + 1) .engine ++ .engine :: later)
    (s := transmitted op i rest _ s) hopen
    (fun d hd => (Nat.zero_add _).symm ▸ hlen ▸ le_rxDepth_of_valid hvalid hmax hd) rfl
  have hexplen := explenOf_toNat op
  obtain ⟨frm, hfrm, hcollect⟩ := runSteps_collect (b := b) (bytes := bytes) (later := .engine :: later)
    (s := { transmitted op i rest (List.replicate (bytes.length + 1) .engine ++ .engine :: later) s with
      rxbuf := b :: bytes })
    rfl rfl rfl ((Nat.zero_add _).trans (hlen.trans hexplen.symm)) (hexplen.symm ▸ hmax) rfl
  have hjudge := step_decode (s := responseCollected op i rest (.engine :: later) frm s) (engineTurn_of_cons rfl) rfl hop
  have hcollected : collected (responseCollected op i rest (.engine :: later) frm s) = b :: bytes := hfrm
  rw [hcollected] at hjudge
  refine ⟨responseCollected op i rest later frm s, ?_, ⟨rfl, rfl, rfl, rfl, rfl, rfl⟩⟩
  rw [← hlen]
  exact runSteps_append hsend (runSteps_append hreceive (runSteps_append hcollect (runSteps_one hjudge)))

/-- The whole transaction: acceptance, then the answered attempt (R135, R136). -/
theorem runSteps_acceptedAnswered {op : Opcode} {addr : AddrIn} {data : Word} {response : List Byte} {rest : List Bool}
    {later : List Turn} {s : State} (hvalid : s.params.valid) (hopen : s.chOpen = true)
    (hlen : response.length = explenOf op) (hanswers : s.sendAnswers = List.replicate (txlenOf op) true ++ rest)
    (hturns : s.schedule = .engine :: answeredAttempt op response ++ later)
    (haccept : step s = .next (acceptRequest op addr data (turnTaken s))) :
    ∃ t, runSteps (txlenOf op + 1 + (explenOf op + (explenOf op + 1)) + 1) s = .next (judge op response t) ∧
      t.rdata = s.rdata ∧ t.cmd = none ∧ t.rxbuf = [] ∧ t.sendAnswers = rest ∧ t.schedule = later ∧
      t.trace = s.trace ++ frameEvents (enc op (addr.extractLsb' 0 32) data) := by
  rw [acceptRequest_of_open (s := turnTaken s) op addr data hopen,
    turnTaken_of_cons (rest := answeredAttempt op response ++ later) hturns] at haccept
  obtain ⟨t, hrun, h⟩ := runSteps_answeredAttempt (op := op) (rest := rest) (later := later)
    (s := { s with
      schedule := answeredAttempt op response ++ later, cmd := none
      reqOp := opTag op, reqAddr := addr.extractLsb' 0 32, reqData := data
      attempt := 1, teState := .prep })
    hvalid rfl (opOfTag_opTag op) hopen hlen hanswers rfl
  exact ⟨t, (runSteps_cons haccept).trans hrun, h.rdata, h.cmd, h.rxbuf, h.sendAnswers, h.schedule, h.trace⟩

theorem step_of_readPresented {s : State} {addr : AddrIn} {x : Word} (he : engineTurn s) (hidle : s.teState = .idle)
    (hcmd : s.cmd = some (.word (commandWord Config.cmdRead addr x))) :
    step s = .next (acceptRequest .read addr 0 (turnTaken s)) := by
  have hdecode : decodeInterface (.word (commandWord Config.cmdRead addr x)) = .read addr x := decodeCommand_read addr x
  rw [step_idle_of_cmd he hidle hcmd, hdecode, exec_read_of_idle (s := turnTaken s) addr x hidle]

theorem step_of_writePresented {s : State} {addr : AddrIn} {data : Word} (he : engineTurn s) (hidle : s.teState = .idle)
    (hcmd : s.cmd = some (.word (commandWord Config.cmdWrite addr data))) :
    step s = .next (acceptRequest .write addr data (turnTaken s)) := by
  have hdecode : decodeInterface (.word (commandWord Config.cmdWrite addr data)) = .write addr data :=
    decodeCommand_write addr data
  rw [step_idle_of_cmd he hidle hcmd, hdecode, exec_write_of_idle (s := turnTaken s) addr data hidle]

/-- Settles O59: the run of an accepted READ ends in T10, as DEC reads back what RSP.READ says. -/
theorem readReturnsTheAnsweredData : Obligations.ReadReturnsTheAnsweredData := by
  unfold Obligations.ReadReturnsTheAnsweredData
  intro addr x st v rest later s hvalid hidle hopen hcmd hanswers hturns
  have hdec : dec .read (rspEncRead (st.setWidth 8) v) = .okRead (st.setWidth 8) v :=
    dec_read_rspEncRead (statusLegal_statusByte st) v
  obtain ⟨t, hrun, -, hcmd', hrxbuf, hsends, hschedule, htrace⟩ := runSteps_acceptedAnswered (op := .read) hvalid
    hopen rfl hanswers hturns (step_of_readPresented (engineTurn_of_cons hturns) hidle hcmd)
  rw [judge_of_okRead hdec, complete_eq] at hrun
  exact ⟨_, hrun, rfl, rfl, rfl, hrxbuf, hcmd', hsends, hschedule, congrArg (· ++ _) htrace⟩

/-- Settles O60: the run of an accepted WRITE ends in T10, which leaves RDATA. -/
theorem writeReturnsTheAnsweredStatus : Obligations.WriteReturnsTheAnsweredStatus := by
  unfold Obligations.WriteReturnsTheAnsweredStatus
  intro addr data st rest later s hvalid hidle hopen hcmd hanswers hturns
  have hdec : dec .write (rspEncWrite (st.setWidth 8)) = .okWrite (st.setWidth 8) :=
    dec_write_rspEncWrite (statusLegal_statusByte st)
  obtain ⟨t, hrun, hrdata, hcmd', hrxbuf, hsends, hschedule, htrace⟩ := runSteps_acceptedAnswered (op := .write) hvalid
    hopen rfl hanswers hturns (step_of_writePresented (engineTurn_of_cons hturns) hidle hcmd)
  rw [judge_of_okWrite hdec, complete_eq] at hrun
  exact ⟨_, hrun, rfl, rfl, hrdata, hrxbuf, hcmd', hsends, hschedule, congrArg (· ++ _) htrace⟩

end Sys2Proof.Machine
end
